-- ==== Sys2Proof/Word.lean ====
section
/-! DEFINITION. The words, indexes and small operand types that the commands of the DL448 are written with. -/

namespace Sys2Proof

/-- One byte of a packet, of loop DRAM or of keep flash. -/
abbrev Byte := BitVec 8

/-- A 32-bit word: a sample word, a flash word, a four-byte field (R163, R191). -/
abbrev Word := BitVec 32

/-- A signed 24-bit audio sample (Introduction, Conventions). -/
abbrev Sample := BitVec 24

/-- Stations S0 to S3. -/
abbrev Station := Fin 4

/-- Tracks T0 to T7. -/
abbrev TrackId := Fin 8

/-- Layers L0 to L63. -/
abbrev LayerId := Fin 64

/-- Recording heads H0 and H1. -/
abbrev HeadId := Fin 2

/-- The eight sources, station × 2 + channel, left 0 and right 1 (R191, origin codes). -/
abbrev SourceId := Fin 8

/-- The two strap pins PRI_n_A and PRI_n_B of one station, as sampled (R73). -/
structure Strap where
  a : Bool
  b : Bool
  deriving DecidableEq, Repr

/-- The envelope whose fade an event FADE_END ends (R117): E_track of a track or E_layer of a layer. -/
inductive FadeSel where
  | track (t : TrackId)
  | layer (l : LayerId)
  deriving DecidableEq, Repr

/-- Which steps of a frame boundary are taken after other events of that boundary (R97, R119, R139, R152): the fades,
the fold job, the escalation that a SET BANDS asked for, the look-ahead of the first takes. -/
structure Late where
  fades : Bool
  fold : Bool
  bands : Bool
  look : Bool
  deriving DecidableEq, Repr

/-- What comes before the Head Arbiter's tests in an ENTRY_FIRE: fold start attempts that the entries asked for (R152),
look-aheads still to be taken (R97). -/
structure FireOrder where
  foldFirst : Bool
  lookFirst : Bool
  deriving DecidableEq, Repr

/-- What SUPPLY_READING brings: the level of the SENSE pin, as divider input voltage in units of 10 mV (R123), and whether
the reading comes before the boundary of a SET BANDS (R139). -/
structure SenseInput where
  level : Nat
  readingFirst : Bool
  deriving DecidableEq, Repr

/-- What an interrupted or failed erase or programming left in the sector or page it worked on: offset and byte
(R176, "the flash keeps whatever that left"). -/
abbrev FlashLeft := List (Nat × Byte)

/-- The words of a page that the flash holds in place of what was programmed: index in the page and word (R168). -/
abbrev PageFaults := List (Nat × Word)

end Sys2Proof
end

