-- ==== Sys2Proof/Syntax.lean ====
section
/-! DEFINITION. The commands of the DL448: one constructor per row of spec/opcode_table.json, in the table's order.
A request carries the station whose port took it and its body fields at the widths of §11.5. -/

namespace Sys2Proof

inductive Instr where
  /-- POWER_RESET (R176): the straps as sampled, and what an interrupted flash write left. -/
  | powerReset (straps : Vector Strap 4) (left : FlashLeft)
  /-- BROWNOUT_RESET (R176). -/
  | brownoutReset (straps : Vector Strap 4) (left : FlashLeft)
  /-- PIN_RESET (R176). -/
  | pinReset (straps : Vector Strap 4) (left : FlashLeft)
  /-- RESET_END (R114, R188): `detectorLast` says that the detector still held the part after RESET_N had risen. -/
  | resetEnd (detectorLast : Bool)
  /-- STARTUP (R177). -/
  | startup
  /-- STARTUP_COMMIT (R177). -/
  | startupCommit
  /-- CS_FALL (R181): CS_N of a port falls. -/
  | csFall (st : Station)
  /-- CS_RISE (R180). -/
  | csRise (st : Station)
  /-- PACKET_RECEIVED (R182): a complete packet, kind, length, body and check byte. -/
  | packetReceived (st : Station) (kind len : Byte) (body : List Byte) (check : Byte)
  /-- REPLY_DELIVERED (R181). -/
  | replyDelivered (st : Station)
  /-- NOP (R183). -/
  | nop (st : Station)
  /-- SET_GRID (R6). -/
  | setGrid (st : Station) (fpb : BitVec 16) (bpb cb : Byte)
  /-- CLEAR_GRID (R7). -/
  | clearGrid (st : Station)
  /-- SET_CAPTURE (R8). -/
  | setCapture (st : Station) (capb capBpb : Byte) (pref grace : BitVec 16)
  /-- ACT (R26): the six body bytes of §11.6. -/
  | act (st : Station) (track action quantize srcStation srcChannel chain : Byte)
  /-- CANCEL (R37). -/
  | cancel (st : Station) (track : Byte)
  /-- SET_TRACK (R23). -/
  | setTrack (st : Station) (track : Byte) (gain : BitVec 24) (bus rank : Byte)
  /-- GUARD (R28). -/
  | guard (st : Station) (track flags : Byte)
  /-- UNGUARD (R29). -/
  | unguard (st : Station) (track : Byte)
  /-- SET_LAYER (R67). -/
  | setLayer (st : Station) (layer : Byte) (gain : BitVec 24) (pinned : Byte)
  /-- ROTATE (R68): `d` is a signed 32-bit shift. -/
  | rotate (st : Station) (layer : Byte) (d : Word)
  /-- CREATE_LAYER (R69). -/
  | createLayer (st : Station) (track bars : Byte)
  /-- OPEN_WINDOW (R154). -/
  | openWindow (st : Station) (layer : Byte) (ws we : Word) (direction : Byte)
  /-- WRITE_DATA (R157). -/
  | writeData (st : Station) (words : List Word)
  /-- READ_DATA (R156). -/
  | readData (st : Station) (k : Byte)
  /-- CLOSE_WINDOW (R159). -/
  | closeWindow (st : Station)
  /-- ERASE (R166). -/
  | erase (st : Station) (first count : BitVec 16)
  /-- BLANK_CHECK (R167). -/
  | blankCheck (st : Station) (first count : BitVec 16)
  /-- SAVE (R168). -/
  | save (st : Station) (layer : Byte) (first : BitVec 16)
  /-- LOAD (R170). -/
  | load (st : Station) (first : BitVec 16) (track : Byte)
  /-- VERIFY (R169). -/
  | verify (st : Station) (layer : Byte) (first : BitVec 16)
  /-- SUM (R167). -/
  | sum (st : Station) (first count : BitVec 16)
  /-- PROTECT (R173). -/
  | protect (st : Station) (floor : BitVec 16) (flags : Byte)
  /-- SET_STARTUP (R173): entries of (track, first sector). -/
  | setStartup (st : Station) (entries : List (Byte × BitVec 16))
  /-- RELEASE (R174). -/
  | release (st : Station)
  /-- ABORT_STORE (R175). -/
  | abortStore (st : Station)
  /-- SET_FADE (R115). -/
  | setFade (st : Station) (segLen : BitVec 16) (slopes : Vector Byte 16)
  /-- SET_BANDS (R124): thresholds TA, TB, TC, hysteresis, budgets and ceilings of FULL, TRIM, LEAN, RESERVE. -/
  | setBands (st : Station) (ta tb tc hy : BitVec 16) (budgets : Vector (BitVec 16) 4) (ceilings : Vector (BitVec 24) 4)
  /-- SET_FOLD (R141). -/
  | setFold (st : Station) (threshold : BitVec 16)
  /-- SET_ROUTING (R186). -/
  | setRouting (st : Station) (station : Byte) (mask : BitVec 16)
  /-- SET_LOW_MARK (R102). -/
  | setLowMark (st : Station) (mark : BitVec 16)
  /-- SET_BUS (R110). -/
  | setBus (st : Station) (mainGain cueGain : BitVec 24)
  /-- READ_GRID (R5). -/
  | readGrid (st : Station)
  /-- READ_TRACK (R24). -/
  | readTrack (st : Station) (track : Byte)
  /-- READ_LAYER (R71). -/
  | readLayer (st : Station) (layer : Byte)
  /-- READ_SUPPLY (R140). -/
  | readSupply (st : Station)
  /-- READ_STORE (R178). -/
  | readStore (st : Station)
  /-- READ_EVENTS (R187). -/
  | readEvents (st : Station)
  /-- READ_CLIPS (R113). -/
  | readClips (st : Station)
  /-- READ_IDENT (R188). -/
  | readIdent (st : Station)
  /-- RESTART (R189). -/
  | restart (st : Station)
  /-- FRAME_BOUNDARY (R2): the eight input slots of the frame that has just ended, by source number, and which
  advances are taken late. -/
  | frameBoundary (inputs : Vector Sample 8) (late : Late)
  /-- BEAT_BOUNDARY (R2): `foldFirst` says that the Fold Engine's start attempt comes before the restore (R152). -/
  | beatBoundary (foldFirst : Bool)
  /-- ENTRY_FIRE (R32), with what comes before the Head Arbiter's tests (R97, R152). -/
  | entryFire (order : FireOrder)
  /-- TAKE_LIMIT_CLOSE (R81) of the take on a head. -/
  | takeLimitClose (h : HeadId)
  /-- SHORT_TAKE_CLOSE (R83) of the take on a head; a look-ahead still to be taken there comes with it (log 7). -/
  | shortTakeClose (h : HeadId)
  /-- PASS_END (R87) of the take on a head; `foldFirst` as for ENTRY_FIRE. -/
  | passEnd (h : HeadId) (foldFirst : Bool)
  /-- FADE_END (R117). -/
  | fadeEnd (which : FadeSel)
  /-- FOLD_COMPLETE (R147). -/
  | foldComplete
  /-- SUPPLY_READING (R123, R139). -/
  | supplyReading (sense : SenseInput)
  /-- FLASH_SECTOR_DONE (R166). -/
  | flashSectorDone (eraseFailed : Bool) (left : FlashLeft)
  /-- FLASH_PAGE_DONE (R168). -/
  | flashPageDone (faults : PageFaults)
  /-- VERIFY_PROGRESS (R169): how many more image words have been compared. -/
  | verifyProgress (words : Nat)
  /-- LOAD_COPY_DONE (R171): how many more words have been copied. -/
  | loadCopyDone (words : Nat)
  /-- OPTION_REWRITE_DONE (R172). -/
  | optionRewriteDone (eraseFailed : Bool) (left : FlashLeft) (faults : PageFaults)
  /-- REPLY_PLACED (R182). -/
  | replyPlaced (st : Station)
  deriving DecidableEq, Repr

end Sys2Proof
end

