-- ==== Sys2Proof/Decode.lean ====
section
/-! DEFINITION. No row of spec/opcode_table.json gives bits (every "fields" list is empty), so no word spells a command. -/

namespace Sys2Proof

/-- The command that a word spells by the table's bits: none, because no row of the table gives any. -/
def decodeTableWord (_nbits _w : Nat) : Option Instr := none

end Sys2Proof
end

