-- ==== Sys2Proof/Config.lean ====
section
/-! DEFINITION. What the part fixes once (sizes, limits, identity) and the free values that the manual leaves open. -/

namespace Sys2Proof.Config

/-- Sample words in a loop DRAM block (R91). -/
def blockWords : Nat := 4096

/-- Loop DRAM blocks (R91). -/
def blockCount : Nat := 8192

/-- Frames held by a pre-roll ring (R77). -/
def ringFrames : Nat := 4096

/-- Bytes of a keep-flash sector, and words and bytes of a page (R163). -/
def sectorBytes : Nat := 65536
def sectorWords : Nat := 16384
def pageWords : Nat := 64

/-- Sectors of the keep flash; the option record is in the last one (R163). -/
def sectorCount : Nat := 1024
def optionSector : Nat := 1023

/-- Words of an image header (R163). -/
def headerWords : Nat := 16

/-- Unity in Q16 (Introduction, Gains and envelopes). -/
def unity : Nat := 65536

/-- Top of the layer and track gain range (Introduction). -/
def gainMax : Nat := 131072

/-- Greatest length of a capture-mode take (R79). -/
def captureLimit : Nat := 9216000

/-- Greatest stack and redo list (R59), fade reserve (R132). -/
def stackMax : Nat := 12
def redoMax : Nat := 4
def reserveMax : Nat := 8

/-- Frame boundaries between two supply readings (R123). -/
def readingPeriod : Nat := 480

/-- Re-arm distance of a take start that named no boundary (R20). -/
def rearmNow : Nat := 480

/-- The part's fixed identity (R188). -/
def vendorCode : Nat := 0x0D1C
def partCode : Nat := 0x0448
def revision : Nat := 0x01

/-- Marks of an image header and of the option record (R191). -/
def imageMark : Word := 0x38344C44#32
def optionMark : Word := 0x504F4C44#32

/-- FREE VALUE (log 26): the number READ LAYER gives the bottom layer of a stack and the front of a redo list; the manual
says "counted from the bottom" and not from which number. -/
opaque placeBase : Byte

/-- FREE VALUE (log 26): the place index of a layer that stands in no list, by the code of its place. -/
opaque noPlaceIndex : Byte → Byte

/-- FREE VALUE (log 26): the origin code of a FREE slot, whose origin is none. -/
opaque originNone : Byte

/-- FREE VALUE (log 24): the detail of a store result for which the manual states none, fresh for each result. -/
opaque unstatedDetail : Nat → Word

/-- FREE VALUE (log 25): how the count and the first index of a MISMATCH share the four bytes of the detail. -/
opaque mismatchDetail : Nat → Nat → Word

/-- FREE VALUE (log 31): the result READ STORE sends for a list entry that start-up has not loaded, by its place. -/
opaque unreportedResult : Nat → Byte

end Sys2Proof.Config
end

