-- ==== Sys2Proof/Machine/State.lean ====
section
/-! DEFINITION. The state of the DL448 as plain data, block by block as the manual divides it, the reasons a step can stop,
and the state after reset. Each field's docstring names the rule of spec/ that gives it. -/

namespace Sys2Proof.Machine

/-! ### Names the manual uses -/

/-- §2.2, R25. -/
inductive Action where
  | record | overdub | stop | mute | unmute | undo | redo | clear | commit
  deriving DecidableEq, Repr

/-- §1.4. -/
inductive Quantize where
  | now | beat | bar | cycle | loop
  deriving DecidableEq, Repr

/-- R21. -/
inductive TrackState where
  | empty | firstRec | playing | overdub | muted
  deriving DecidableEq, Repr

/-- R105. -/
inductive Bus where
  | main | cue | both
  deriving DecidableEq, Repr

/-- §3.1. -/
inductive LayerState where
  | free | recording | preparing | live | redo | building
  deriving DecidableEq, Repr

/-- Introduction, Sources; §3.1. -/
inductive Origin where
  | source (src : SourceId) | imported | loaded | folded
  deriving DecidableEq, Repr

/-- R72. -/
inductive HeadMode where
  | first | capture | overdub
  deriving DecidableEq, Repr

/-- R123. -/
inductive Band where
  | full | trim | lean | reserve
  deriving DecidableEq, Repr

/-- R153. -/
inductive WindowState where
  | closed | opened | lost
  deriving DecidableEq, Repr

/-- R155. -/
inductive Direction where
  | forward | reverse
  deriving DecidableEq, Repr

/-- §11.6, drop reasons. -/
inductive DropReason where
  | state | guarded | heads | noMemory | noLayer | budget | lowSupply | stackFull | replaced | cancelled | cleared | grid
  deriving DecidableEq, Repr

/-- §11.3, the fourteen event classes. -/
inductive EventClass where
  | beat | bar | cycle | fired | dropped | captured | captureFailed | shed | band | fold | storeDone | clip | memoryLow
  | windowLost
  deriving DecidableEq, Repr

/-- §11.6, reply codes. -/
inductive Code where
  | ok | merged | empty | pending
  | badCheck | badKind | badLength | param | starting
  | state | guarded | gridUnset | gridInUse | noLayer | noMemory | lowSupply | stackFull
  | noWindow | retry | windowLost
  | storeBusy | protected_ | range | notBlank | barred
  deriving DecidableEq, Repr

/-- §10.2. -/
inductive EngineState where
  | idle | busy | starting
  deriving DecidableEq, Repr

/-- §11.6, store operations. -/
inductive StoreKind where
  | erase | blankCheck | save | load | verify | sum | protect | setStartup | release
  deriving DecidableEq, Repr

/-- §11.6, store results. -/
inductive StoreResult where
  | done | eraseFail | programFail | notBlank | badHeader | gridMismatch | checkFail | mismatch | noLayer | noMemory
  | aborted | restarted | range
  deriving DecidableEq, Repr

/-- R188. -/
inductive ResetCause where
  | power | brownout | pin | restart
  deriving DecidableEq, Repr

/-! ### Grid Unit (chapter 1) -/

/-- The grid record in SET: tempo, metre, cycle and the position of the frame in progress (R1). -/
structure Tempo where
  fpb : Nat
  bpb : Nat
  cb : Nat
  bar : Nat
  beat : Nat
  f : Nat
  deriving DecidableEq, Repr

structure GridUnit where
  /-- UNSET (none: "the record holds no tempo and no position") or SET (R1). -/
  tempo : Option Tempo
  capb : Nat
  capBpb : Nat
  pref : Nat
  grace : Nat
  /-- The model's own: the advance reached f = 0 and BEAT_BOUNDARY has not been taken (log 4). -/
  beatDue : Bool
  deriving DecidableEq, Repr

/-! ### Fades (chapter 6) -/

/-- R117: start value A, target value B, progress t. Two marks are the model's own (log 38): `reached`, t has reached FL and the
end of the fade has not been taken; `fresh`, the fade started at a boundary whose advance has not been taken, and
that advance leaves it at t = 0 (R119). -/
structure Fade where
  start : Nat
  target : Nat
  t : Nat
  reached : Bool
  fresh : Bool
  deriving DecidableEq, Repr

/-! ### Track Table and Action Queue (chapter 2) -/

/-- R28, R30. -/
structure Guards where
  noClear : Bool
  noRecord : Bool
  noUndo : Bool
  noEdit : Bool
  fixed : Bool
  deriving DecidableEq, Repr

/-- The track record of §2.1. -/
structure Track where
  state : TrackState
  bars : Nat
  tlf : Nat
  pos : Nat
  gain : Nat
  bus : Bus
  rank : Nat
  guards : Guards
  stack : List LayerId
  redo : List LayerId
  take : Option LayerId
  takeStation : Option Station
  prepared : Option LayerId
  env : Nat
  fade : Option Fade
  foldWanted : Bool
  deriving DecidableEq, Repr

/-- A queue entry, the table of §2.4. -/
structure Entry where
  track : TrackId
  action : Action
  quantize : Quantize
  station : Station
  source : Option SourceId
  chain : Bool
  remaining : Nat
  backdate : Nat
  retries : Nat
  emptied : Bool
  deriving DecidableEq, Repr

/-- A last-drop record (R42). -/
structure DropRecord where
  track : TrackId
  action : Action
  reason : DropReason
  deriving DecidableEq, Repr

/-! ### Layer Table (chapter 3) -/

/-- One extent entry: block number and blank mark (R91). -/
structure Extent where
  block : Nat
  blank : Bool
  deriving DecidableEq, Repr

/-- The layer record of §3.1. -/
structure Layer where
  state : LayerState
  track : Option TrackId
  origin : Option Origin
  length : Nat
  offset : Nat
  spanStart : Nat
  spanLen : Nat
  gain : Nat
  pinned : Bool
  shed : Bool
  folding : Bool
  env : Nat
  fade : Option Fade
  extents : List Extent
  deriving DecidableEq, Repr

/-! ### Head Arbiter and rings (chapter 4) -/

/-- A HELD head, the table of §4.1. `newer` is the opening order NEWER. `lookDue` is the model's own: the look-ahead of
this boundary has not been taken (log 7). -/
structure Held where
  track : TrackId
  layer : LayerId
  source : SourceId
  mode : HeadMode
  limit : Nat
  short : Bool
  newer : Bool
  lookDue : Bool
  deriving DecidableEq, Repr

structure Arbiter where
  /-- FREE is none (R72). -/
  heads : Vector (Option Held) 2
  /-- The four strap priorities (R73). -/
  priorities : Vector Nat 4
  /-- The round-robin pointer (R73). -/
  pointer : Station
  deriving DecidableEq, Repr

/-! ### Block Pool (chapter 5) -/

structure Pool where
  /-- Head to tail (R92). -/
  free : List Nat
  lowMark : Nat
  belowMark : Bool
  deriving DecidableEq, Repr

/-! ### Mix Engine (chapter 6) -/

/-- One MAIN and CUE output sample pair (R111). -/
structure OutPair where
  main : Int
  cue : Int
  deriving DecidableEq, Repr

structure Mixer where
  mainGain : Nat
  cueGain : Nat
  mainClips : Nat
  cueClips : Nat
  segLen : Nat
  slopes : Vector Nat 16
  /-- The pair of the frame in progress (R106). -/
  pair : OutPair
  /-- The pair that the lanes shift out in the frame in progress, one frame behind (R114). -/
  lane : OutPair
  /-- ABCK and AFS run (R114). -/
  clocks : Bool
  /-- The model's own: the pair of the frame in progress still waits for events of its boundary (log 5). -/
  frameOpen : Bool
  /-- The model's own: the fades' advance of this boundary has not been taken (log 7). -/
  fadesDue : Bool
  deriving DecidableEq, Repr

/-! ### Budget Unit (chapter 7) -/

/-- The band table (R124); budgets and ceilings in the order FULL, TRIM, LEAN, RESERVE. -/
structure BandTable where
  ta : Nat
  tb : Nat
  tc : Nat
  hy : Nat
  budgets : Vector Nat 4
  ceilings : Vector Nat 4
  deriving DecidableEq, Repr

structure Budget where
  /-- none: no reading since the last reset (R123). -/
  reading : Option Nat
  timer : Nat
  /-- The model's own: the timer ran out and SUPPLY_READING has not been taken (log 4). -/
  readingDue : Bool
  band : Band
  table : BandTable
  /-- A SET BANDS was taken in the frame in progress (R124: it acts from the boundary that follows). -/
  tableNew : Bool
  /-- The boundary after a SET BANDS has come and its escalation has not been taken (log 7). -/
  bandsDue : Bool
  /-- Budget and ceiling in force (R124, R126). -/
  limit : Nat
  ceiling : Nat
  foldPaused : Bool
  shedList : List LayerId
  reserve : List LayerId
  /-- The SENSE pin, as divider input voltage in units of 10 mV (R123). -/
  sense : Nat
  deriving DecidableEq, Repr

/-! ### Fold Engine (chapter 8) -/

structure FoldJob where
  track : TrackId
  a : LayerId
  b : LayerId
  result : LayerId
  next : Nat
  deriving DecidableEq, Repr

structure FoldUnit where
  threshold : Nat
  /-- none while IDLE (R143). -/
  job : Option FoldJob
  /-- The model's own: the job's advance of this boundary has not been taken (log 7). -/
  advanceDue : Bool
  /-- The model's own: an event of R143 asked for a start attempt that has not been made (log 29). -/
  attemptDue : Bool
  deriving DecidableEq, Repr

/-! ### Window Engine (chapter 9) -/

structure Window where
  state : WindowState
  layer : Option LayerId
  start : Nat
  stop : Nat
  direction : Direction
  pointer : Nat
  holder : Word
  deriving DecidableEq, Repr

/-! ### Store Engine (chapter 10) -/

/-- Where a SAVE stands (R168): programming page `page`, programming sum and mark, or reading back page `page`. -/
inductive SavePhase where
  | pages (page : Nat)
  | finish
  | readBack (page : Nat)
  deriving DecidableEq, Repr

/-- Arguments and working values of a running operation, by kind. -/
inductive StoreJob where
  | erase (first count : Nat)
  | blankCheck (first count : Nat)
  | sum (first count : Nat) (acc : BitVec 16)
  /-- `header`: the sixteen header words taken at the start; `sum`: of the sample words written so far; `bad`: image
  words that did not take; `held`: the words of the page in progress when a RESTART purged the layer (log 20). -/
  | save (layer : LayerId) (first : Nat) (header : List Word) (total : Nat) (sum : Word) (phase : SavePhase)
      (bad : List Nat) (held : List Word)
  /-- `sum`: of the words read so far; `check`: the header's sample sum. -/
  | load (layer : LayerId) (first : Nat) (total : Nat) (sum check : Word)
  | verify (layer : LayerId) (first : Nat) (total : Nat) (differ : Nat) (firstDiff : Nat)
  | protect
  | setStartup
  /-- `floor`: the floor at the start; sectors below it are erased first. -/
  | release (floor : Nat)
  deriving DecidableEq, Repr

/-- The running operation of §10.2. `restarted`: a RESTART found it (R176). -/
structure StoreOp where
  job : StoreJob
  requester : Station
  progress : Nat
  abort : Bool
  restarted : Bool
  deriving DecidableEq, Repr

/-- The detail of a store result (R166 to R176): a number the operation's rule gives, the two numbers of a MISMATCH, or
none stated (a free value, log 24; `k` makes each one fresh). -/
inductive Detail where
  | value (n : Nat)
  | mismatch (count firstIndex : Nat)
  | unstated (k : Nat)
  deriving DecidableEq, Repr

structure StoreLast where
  kind : StoreKind
  requester : Station
  result : StoreResult
  progress : Nat
  detail : Detail
  deriving DecidableEq, Repr

/-- Option record fields (R172). -/
structure OptionCopy where
  floor : Nat
  releaseBarred : Bool
  startupFixed : Bool
  list : List (TrackId × Nat)
  deriving DecidableEq, Repr

/-- How far start-up is (R177): not begun, entries loaded, the boundary of the commit has come, over. -/
inductive StartPhase where
  | waiting | loaded | commitDue | over
  deriving DecidableEq, Repr

structure Store where
  engine : EngineState
  running : Option StoreOp
  last : Option StoreLast
  /-- The user sectors whose erased mark is set, rising (R166). -/
  erased : List Nat
  option : OptionCopy
  optionInvalid : Bool
  /-- The start-up report: each entry that start-up read, with its result (R178, log 31). -/
  results : List ((TrackId × Nat) × StoreResult)
  phase : StartPhase
  /-- The model's own, kept with the flash: a rewrite of sector 1,023 failed or was cut, so its record reads as invalid
  (R172, R176; log 17). -/
  optionBroken : Bool
  deriving DecidableEq, Repr

/-! ### Station Ports and Attention Unit (chapter 11) -/

/-- A formed reply (R184): code and body. -/
structure Reply where
  code : Code
  body : List Byte
  deriving DecidableEq, Repr

/-- A reply frame as it is shifted out (R181, R191): status byte and body; length and check follow from them. -/
structure Frame where
  status : Byte
  body : List Byte
  deriving DecidableEq, Repr

/-- R180. -/
inductive RxState where
  | idle
  | receiving (bytes : List Byte)
  deriving DecidableEq, Repr

/-- R182: READY, or WORKING with the request it holds or the reply it has formed. -/
inductive Executor where
  | ready
  | holding (request : Instr)
  | answered (reply : Reply)
  deriving DecidableEq, Repr

structure Port where
  csLow : Bool
  rx : RxState
  executor : Executor
  holder : Option Frame
  dropped : Bool
  /-- The frame fixed for the transaction in progress (R181). -/
  out : Option Frame
  /-- The frame is the reply that the holder still holds (R181). -/
  outHeld : Bool
  deriving DecidableEq, Repr

structure Attention where
  events : Vector (BitVec 14) 4
  masks : Vector (BitVec 14) 4
  lastDrop : Vector (Option DropRecord) 4
  deriving DecidableEq, Repr

/-- Resets in force and their cause (R114, R188). -/
structure ResetUnit where
  cause : ResetCause
  inReset : Bool
  pinHolds : Bool
  detectorHolds : Bool
  deriving DecidableEq, Repr

/-! ### The whole part -/

/-- The state of the DL448, one field per block, and the queue of waiting commands. -/
structure State where
  /-- Grid Unit, chapter 1. -/
  grid : GridUnit
  /-- Track Table, T0 to T7 (R21). -/
  tracks : Vector Track 8
  /-- Action Queue, front first (R31). -/
  queue : List Entry
  /-- Layer Table, L0 to L63 (R50). -/
  layers : Vector Layer 64
  /-- Head Arbiter (R72, R73). -/
  arbiter : Arbiter
  /-- Pre-roll Rings, by source, newest word first (R77). -/
  rings : Vector (List Word) 8
  /-- Block Pool (R92, R101). -/
  pool : Pool
  /-- Loop DRAM, 128 MiB (R91). -/
  dram : List Host.Cell
  /-- Mix Engine (R110 to R118). -/
  mixer : Mixer
  /-- Budget Unit (R123 to R140). -/
  budget : Budget
  /-- Fold Engine (R141 to R152). -/
  fold : FoldUnit
  /-- Window Engine, one window per station (R153). -/
  windows : Vector Window 4
  /-- Store Engine (R164 to R178). -/
  store : Store
  /-- Keep flash, 64 MiB (R163). -/
  flash : List Host.Cell
  /-- Station Ports (R179 to R184). -/
  ports : Vector Port 4
  /-- Attention Unit and last-drop records (R185 to R187, R42). -/
  attention : Attention
  /-- Reset causes (R188). -/
  resets : ResetUnit
  /-- The model's own: how many free values have been drawn (log 24). -/
  freeCount : Nat
  /-- The commands that wait, first in, first out. -/
  pending : List Instr
  deriving DecidableEq, Repr

/-! ### Why a step can stop -/

/-- The part has no event that stops it: every refusal is a reply code, a drop reason or a store result. No meaning raises
a fault, so there is no constructor (safe: nothing is hidden behind a stop). -/
inductive Fault where
  deriving DecidableEq, Repr

inductive Refusal where
  /-- Raised only by an arm of `exec` whose command has no meaning yet (safe: the step stops). -/
  | notModelled (mnemonic : String)
  deriving DecidableEq, Repr

/-! ### Reset values -/

/-- The reset column of §2.1. -/
def Track.reset : Track :=
  { state := .empty, bars := 0, tlf := 0, pos := 0, gain := Config.unity, bus := .main, rank := 0,
    guards := ⟨false, false, false, false, false⟩, stack := [], redo := [], take := none, takeStation := none,
    prepared := none, env := Config.unity, fade := none, foldWanted := false }

/-- The FREE column of §3.1. -/
def Layer.free : Layer :=
  { state := .free, track := none, origin := none, length := 0, offset := 0, spanStart := 0, spanLen := 0,
    gain := Config.unity, pinned := false, shed := false, folding := false, env := 0, fade := none, extents := [] }

/-- R93. -/
def Pool.reset : Pool := { free := List.range Config.blockCount, lowMark := 256, belowMark := false }

/-- The reset column of §9.1. -/
def Window.reset : Window :=
  { state := .closed, layer := none, start := 0, stop := 0, direction := .forward, pointer := 0, holder := 0#32 }

/-- R8. -/
def GridUnit.reset : GridUnit :=
  { tempo := none, capb := 0, capBpb := 4, pref := 24000, grace := 2400, beatDue := false }

/-- §6.3, §6.4, R114; `clocks` is set by the end of the reset. -/
def Mixer.reset : Mixer :=
  { mainGain := Config.unity, cueGain := Config.unity, mainClips := 0, cueClips := 0, segLen := 16,
    slopes := Vector.replicate 16 1, pair := ⟨0, 0⟩, lane := ⟨0, 0⟩, clocks := false, frameOpen := false,
    fadesDue := false }

/-- R124. -/
def BandTable.reset : BandTable :=
  { ta := 1150, tb := 1100, tc := 1050, hy := 20, budgets := #v[48, 32, 16, 8],
    ceilings := #v[8388607, 7471104, 5931642, 4194304] }

/-- §7.1. The SENSE pin's level is the outside's (log 13). -/
def Budget.reset : Budget :=
  { reading := none, timer := 0, readingDue := false, band := .full, table := BandTable.reset, tableNew := false,
    bandsDue := false, limit := 48, ceiling := 8388607, foldPaused := false, shedList := [], reserve := [], sense := 0 }

/-- §8.1. -/
def FoldUnit.reset : FoldUnit := { threshold := 8, job := none, advanceDue := false, attemptDue := false }

/-- The option copy of an invalid record (R172), which the copy also holds before start-up reads one (log 13). -/
def OptionCopy.invalid : OptionCopy :=
  { floor := 1023, releaseBarred := false, startupFixed := false, list := [] }

/-- §10.2. -/
def Store.reset : Store :=
  { engine := .starting, running := none, last := none, erased := [], option := OptionCopy.invalid,
    optionInvalid := false, results := [], phase := .waiting, optionBroken := false }

/-- R190; CS_N of the port is the outside's (log 13). -/
def Port.reset : Port :=
  { csLow := false, rx := .idle, executor := .ready, holder := none, dropped := false, out := none, outHeld := false }

/-- R185, R186, R42. -/
def Attention.reset : Attention :=
  { events := Vector.replicate 4 0#14, masks := Vector.replicate 4 0#14, lastDrop := Vector.replicate 4 none }

/-- §4.1, R73; all straps low (log 13). -/
def Arbiter.reset : Arbiter :=
  { heads := Vector.replicate 2 none, priorities := Vector.replicate 4 0, pointer := 3 }

/-- The part while a POWER reset holds it: every field at its POWER value, nothing listed in either memory. -/
def State.inPowerReset : State :=
  { grid := GridUnit.reset, tracks := Vector.replicate 8 Track.reset, queue := [],
    layers := Vector.replicate 64 Layer.free, arbiter := Arbiter.reset,
    rings := Vector.replicate 8 (List.replicate Config.ringFrames 0#32), pool := Pool.reset, dram := [],
    mixer := Mixer.reset, budget := Budget.reset, fold := FoldUnit.reset, windows := Vector.replicate 4 Window.reset,
    store := Store.reset, flash := [], ports := Vector.replicate 4 Port.reset, attention := Attention.reset,
    resets := ⟨.power, true, false, false⟩, freeCount := 0, pending := [] }

/-- The part right after a POWER reset has ended: the clocks run (R114) and the engine is STARTING (R164). -/
def State.reset : State :=
  { State.inPowerReset with
    mixer := { Mixer.reset with clocks := true }
    resets := ⟨.power, false, false, false⟩ }

end Sys2Proof.Machine
end

