-- ==== Sys2Proof/Machine/Arith.lean ====
section
/-! DEFINITION. Arithmetic helpers of the manual's conventions (clamping, rounding shift, little-endian fields) and the two
byte memories in canonical form. -/

namespace Sys2Proof.Machine

/-! ### Numbers -/

/-- ceil(a / b). -/
def ceilDiv (a b : Nat) : Nat := (a + b - 1) / b

/-- "a request above the range takes the top of the range and a request below it takes the bottom" (Introduction). -/
def clamp (lo hi x : Nat) : Nat := if x < lo then lo else if hi < x then hi else x

/-- The rounding shift (x + 32,768) >> 16 on a signed value (Introduction): division rounds toward negative infinity. -/
def roundShift (x : Int) : Int := (x + 32768) / 65536

/-- Clamp a signed value to −c..c (R111). -/
def clampSym (c y : Int) : Int := if c < y then c else if y < -c then -c else y

/-- Saturate to the signed 24-bit range (R146). -/
def clampSample (y : Int) : Int := if 8388607 < y then 8388607 else if y < -8388608 then -8388608 else y

/-! ### Samples and little-endian fields -/

/-- The sample word of a 24-bit sample: bits 31..24 copy bit 23 (R191). -/
def sampleWord (s : Sample) : Word := s.signExtend 32

/-- A sample word as sent or stored: the low 24 bits, sign-extended (R157). -/
def narrowWord (w : Word) : Word := sampleWord (w.truncate 24)

/-- The signed 24-bit value of a sample word (R107). -/
def sampleValue (w : Word) : Int := (w.truncate 24 : Sample).toInt

/-- A signed value in the 24-bit range as a sample word (R146). -/
def wordOfValue (y : Int) : Word := sampleWord (BitVec.ofInt 24 y)

/-- The `n` bytes of an unsigned field, least significant first (Introduction, Packets). -/
def leBytes : Nat → Nat → List Byte
  | 0, _ => []
  | n + 1, v => BitVec.ofNat 8 v :: leBytes n (v / 256)

/-- The unsigned value of a field's bytes, least significant first. -/
def leValue : List Byte → Nat
  | [] => 0
  | b :: rest => b.toNat + 256 * leValue rest

/-- One byte that is 1 for true. -/
def boolByte (b : Bool) : Byte := if b then 1#8 else 0#8

/-! ### Byte memories in canonical form: addresses strictly rising, no entry equal to what an unlisted address reads as -/

/-- What an unlisted byte of loop DRAM reads as (log 14): the manual gives no contents, and no unwritten word is ever read. -/
def dramDefault : Byte := 0#8

/-- What an unlisted byte of keep flash reads as: erased, 0xFF (R163, log 15). -/
def flashDefault : Byte := 0xFF#8

/-- Read one byte. -/
def readByte (dflt : Byte) : List Host.Cell → Nat → Byte
  | [], _ => dflt
  | c :: rest, x => if x = c.1 then c.2 else readByte dflt rest x

/-- Write one byte and keep the canonical form. -/
def writeByte (dflt : Byte) : List Host.Cell → Nat → Byte → List Host.Cell
  | [], x, v => if v = dflt then [] else [(x, v)]
  | c :: rest, x, v =>
    if x < c.1 then (if v = dflt then c :: rest else (x, v) :: c :: rest)
    else if x = c.1 then (if v = dflt then rest else (x, v) :: rest)
    else c :: writeByte dflt rest x v

/-- Set the `n` bytes from `base` to what an unlisted byte reads as: a silence fill (R99) or a sector erase (R163). -/
def clearBytes (m : List Host.Cell) (base n : Nat) : List Host.Cell :=
  m.filter fun c => decide (c.1 < base) || decide (base + n ≤ c.1)

/-- The canonical form. -/
abbrev Memory.wf (dflt : Byte) (m : List Host.Cell) : Prop :=
  m.Pairwise (fun c d => c.1 < d.1) ∧ ∀ c ∈ m, c.2 ≠ dflt

/-- A word, least significant byte at the lowest address (R191, log 14). -/
def readWord (dflt : Byte) (m : List Host.Cell) (a : Nat) : Word :=
  BitVec.ofNat 32
    (leValue [readByte dflt m a, readByte dflt m (a + 1), readByte dflt m (a + 2), readByte dflt m (a + 3)])

/-- Write bytes at rising addresses. -/
def writeBytes (dflt : Byte) : List Host.Cell → Nat → List Byte → List Host.Cell
  | m, _, [] => m
  | m, a, b :: rest => writeBytes dflt (writeByte dflt m a b) (a + 1) rest

/-- Write a word, least significant byte first. -/
def writeWord (dflt : Byte) (m : List Host.Cell) (a : Nat) (w : Word) : List Host.Cell :=
  writeBytes dflt m a (leBytes 4 w.toNat)

end Sys2Proof.Machine
end

