-- ==== Sys2Proof/Machine/Flags.lean ====
section
/-! DEFINITION. Every flag, mark, code and line the part computes from its state: event classes and attention lines, guards,
the GRID pin, the codes of §11.6. -/

namespace Sys2Proof.Machine

/-! ### Event classes and ATN_N (R185, R186) -/

/-- The bit of a class (§11.3). -/
def EventClass.bit : EventClass → Nat
  | .beat => 0 | .bar => 1 | .cycle => 2 | .fired => 3 | .dropped => 4 | .captured => 5 | .captureFailed => 6
  | .shed => 7 | .band => 8 | .fold => 9 | .storeDone => 10 | .clip => 11 | .memoryLow => 12 | .windowLost => 13

/-- The event set that holds one class. -/
def EventClass.mask (c : EventClass) : BitVec 14 := BitVec.ofNat 14 (2 ^ c.bit)

/-- A class is raised to all four stations (R185). -/
def raiseAll (c : EventClass) (s : State) : State :=
  { s with attention := { s.attention with events := s.attention.events.map fun e => e ||| c.mask } }

/-- A class is raised to one station (R185). -/
def raiseTo (st : Station) (c : EventClass) (s : State) : State :=
  { s with attention := { s.attention with
      events := s.attention.events.set st.val (s.attention.events.get st ||| c.mask) st.isLt } }

/-- ATN_N of a station is driven low (R186). -/
def atnLow (s : State) (st : Station) : Bool :=
  decide (s.attention.events.get st &&& s.attention.masks.get st ≠ 0#14)

/-! ### The GRID pin (R4) -/

/-- GRID is high for 192 frames of a beat that starts a bar and 48 frames of any other beat. -/
def gridPin (s : State) : Bool :=
  match s.grid.tempo with
  | none => false
  | some g => if g.beat = 0 then decide (g.f < 192) else decide (g.f < 48)

/-! ### Guards (R30) -/

/-- The guard flags as the byte of §11.6. -/
def Guards.byte (g : Guards) : Byte :=
  boolByte g.noClear ||| (boolByte g.noRecord <<< 1) ||| (boolByte g.noUndo <<< 2) ||| (boolByte g.noEdit <<< 3) |||
    (boolByte g.fixed <<< 4)

/-- The flags that a byte of §11.6 names. -/
def Guards.ofByte (b : Byte) : Guards :=
  ⟨b.getLsbD 0, b.getLsbD 1, b.getLsbD 2, b.getLsbD 3, b.getLsbD 4⟩

/-- R28: flags are added, none is removed. -/
def Guards.add (g h : Guards) : Guards :=
  ⟨g.noClear || h.noClear, g.noRecord || h.noRecord, g.noUndo || h.noUndo, g.noEdit || h.noEdit, g.fixed || h.fixed⟩

def Guards.none : Guards := ⟨false, false, false, false, false⟩

/-- R30: the guards block the action itself. -/
def Guards.blocks (g : Guards) : Action → Bool
  | .clear => g.noClear
  | .record => g.noRecord
  | .overdub => g.noRecord
  | .commit => g.noRecord
  | .undo => g.noUndo
  | .redo => g.noUndo
  | .stop => false
  | .mute => false
  | .unmute => false

/-! ### Codes (§11.6) -/

def Code.byte : Code → Byte
  | .ok => 0x00#8 | .merged => 0x01#8 | .empty => 0x02#8 | .pending => 0x03#8
  | .badCheck => 0x10#8 | .badKind => 0x11#8 | .badLength => 0x12#8 | .param => 0x13#8 | .starting => 0x14#8
  | .state => 0x20#8 | .guarded => 0x21#8 | .gridUnset => 0x23#8 | .gridInUse => 0x24#8 | .noLayer => 0x25#8
  | .noMemory => 0x26#8 | .lowSupply => 0x27#8 | .stackFull => 0x28#8
  | .noWindow => 0x30#8 | .retry => 0x31#8 | .windowLost => 0x32#8
  | .storeBusy => 0x40#8 | .protected_ => 0x41#8 | .range => 0x42#8 | .notBlank => 0x43#8 | .barred => 0x45#8

def Action.byte : Action → Byte
  | .record => 0#8 | .overdub => 1#8 | .stop => 2#8 | .mute => 3#8 | .unmute => 4#8 | .undo => 5#8 | .redo => 6#8
  | .clear => 7#8 | .commit => 8#8

def Action.ofByte (b : Byte) : Option Action :=
  [Action.record, .overdub, .stop, .mute, .unmute, .undo, .redo, .clear, .commit].find? fun a => a.byte == b

def Quantize.byte : Quantize → Byte
  | .now => 0#8 | .beat => 1#8 | .bar => 2#8 | .cycle => 3#8 | .loop => 4#8

def Quantize.ofByte (b : Byte) : Option Quantize :=
  [Quantize.now, .beat, .bar, .cycle, .loop].find? fun q => q.byte == b

def Bus.byte : Bus → Byte
  | .main => 0#8 | .cue => 1#8 | .both => 2#8

def Bus.ofByte (b : Byte) : Option Bus := [Bus.main, .cue, .both].find? fun x => x.byte == b

def TrackState.byte : TrackState → Byte
  | .empty => 0#8 | .firstRec => 1#8 | .playing => 2#8 | .overdub => 3#8 | .muted => 4#8

def LayerState.byte : LayerState → Byte
  | .free => 0#8 | .recording => 1#8 | .preparing => 2#8 | .live => 3#8 | .redo => 4#8 | .building => 5#8

/-- A source is its own number, station × 2 + channel. -/
def Origin.byte : Origin → Byte
  | .source src => BitVec.ofNat 8 src.val
  | .imported => 8#8 | .loaded => 9#8 | .folded => 10#8

def Direction.ofByte (b : Byte) : Option Direction :=
  if b = 0#8 then some .forward else if b = 1#8 then some .reverse else none

def Band.index : Band → Fin 4
  | .full => 0 | .trim => 1 | .lean => 2 | .reserve => 3

def Band.byte (b : Band) : Byte := BitVec.ofNat 8 b.index.val

def DropReason.byte : DropReason → Byte
  | .state => 1#8 | .guarded => 2#8 | .heads => 3#8 | .noMemory => 4#8 | .noLayer => 5#8 | .budget => 6#8
  | .lowSupply => 7#8 | .stackFull => 8#8 | .replaced => 9#8 | .cancelled => 10#8 | .cleared => 11#8 | .grid => 12#8

def EngineState.byte : EngineState → Byte
  | .idle => 0#8 | .busy => 1#8 | .starting => 2#8

def StoreKind.byte : StoreKind → Byte
  | .erase => 0#8 | .blankCheck => 1#8 | .save => 2#8 | .load => 3#8 | .verify => 4#8 | .sum => 5#8 | .protect => 6#8
  | .setStartup => 7#8 | .release => 8#8

def StoreResult.byte : StoreResult → Byte
  | .done => 0#8 | .eraseFail => 1#8 | .programFail => 2#8 | .notBlank => 3#8 | .badHeader => 4#8 | .gridMismatch => 5#8
  | .checkFail => 6#8 | .mismatch => 7#8 | .noLayer => 8#8 | .noMemory => 9#8 | .aborted => 10#8 | .restarted => 11#8
  | .range => 12#8

def ResetCause.byte : ResetCause → Byte
  | .power => 0#8 | .brownout => 1#8 | .pin => 2#8 | .restart => 3#8

/-- The kind of a running operation. -/
def StoreJob.kind : StoreJob → StoreKind
  | .erase .. => .erase | .blankCheck .. => .blankCheck | .sum .. => .sum | .save .. => .save | .load .. => .load
  | .verify .. => .verify | .protect => .protect | .setStartup => .setStartup | .release .. => .release

/-- The four bytes of a detail; what the manual does not state is a free value (log 24, log 25). -/
def Detail.word : Detail → Word
  | .value n => BitVec.ofNat 32 n
  | .mismatch c i => Config.mismatchDetail c i
  | .unstated k => Config.unstatedDetail k

end Sys2Proof.Machine
end

