-- ==== Sys2Proof/Machine/Ops.lean ====
section
/-! DEFINITION. The named operations that the meanings share: accessors, drops, the Block Pool, the blank-block rule, fades'
start, heads' release, purges, the push of a closed take. A block has no exception entry: raising an event class is an
effect on the state (Flags.lean). -/

namespace Sys2Proof.Machine

/-! ### Lists of names -/

def stations : List Station := [0, 1, 2, 3]
def trackIds : List TrackId := [0, 1, 2, 3, 4, 5, 6, 7]
def headIds : List HeadId := [0, 1]
def layerIds : List LayerId := List.finRange 64

/-! ### Accessors -/

def State.track (s : State) (t : TrackId) : Track := s.tracks.get t
def State.setTrack (s : State) (t : TrackId) (x : Track) : State := { s with tracks := s.tracks.set t.val x t.isLt }
def State.modTrack (s : State) (t : TrackId) (f : Track → Track) : State := s.setTrack t (f (s.track t))

def State.layer (s : State) (l : LayerId) : Layer := s.layers.get l
def State.setLayer (s : State) (l : LayerId) (x : Layer) : State := { s with layers := s.layers.set l.val x l.isLt }
def State.modLayer (s : State) (l : LayerId) (f : Layer → Layer) : State := s.setLayer l (f (s.layer l))

def State.head (s : State) (h : HeadId) : Option Held := s.arbiter.heads.get h
def State.setHead (s : State) (h : HeadId) (x : Option Held) : State :=
  { s with arbiter := { s.arbiter with heads := s.arbiter.heads.set h.val x h.isLt } }

def State.window (s : State) (st : Station) : Window := s.windows.get st
def State.setWindow (s : State) (st : Station) (w : Window) : State :=
  { s with windows := s.windows.set st.val w st.isLt }

def State.port (s : State) (st : Station) : Port := s.ports.get st
def State.setPort (s : State) (st : Station) (p : Port) : State := { s with ports := s.ports.set st.val p st.isLt }

/-! ### Drops (R42) -/

/-- R42: DROPPED to that station alone, and its last-drop record replaced. -/
def tellDrop (st : Station) (t : TrackId) (a : Action) (r : DropReason) (s : State) : State :=
  let s := raiseTo st .dropped s
  { s with attention := { s.attention with
      lastDrop := s.attention.lastDrop.set st.val (some ⟨t, a, r⟩) st.isLt } }

/-- R39: the track returned to EMPTY by a cause other than the firing of its waiting entry. -/
def markEmptied (t : TrackId) (s : State) : State :=
  { s with queue := s.queue.map fun e => if e.track = t then { e with emptied := true } else e }

/-! ### Block Pool (R94, R95, R101) -/

/-- R101, after an allocation. -/
def testLowMark (s : State) : State :=
  if s.pool.free.length < s.pool.lowMark ∧ s.pool.belowMark = false then
    raiseAll .memoryLow { s with pool := { s.pool with belowMark := true } }
  else s

/-- R94: all or nothing, from the head of the free list, appended blank to the end of the layer's extent list. -/
def allocate (l : LayerId) (c : Nat) (s : State) : Option State :=
  if c ≤ s.pool.free.length then
    let got := s.pool.free.take c
    let s := { s with pool := { s.pool with free := s.pool.free.drop c } }
    let s := s.modLayer l fun x => { x with extents := x.extents ++ got.map fun b => ⟨b, true⟩ }
    some (testLowMark s)
  else none

/-- R95, R101: blocks join the tail in the order given; the indicator clears when the count is back at the mark. -/
def release (blocks : List Nat) (s : State) : State :=
  let free := s.pool.free ++ blocks
  { s with pool := { s.pool with
      free := free
      belowMark := s.pool.belowMark && decide (free.length < s.pool.lowMark) } }

/-- R95: entries beyond `keep` leave the end of the list and are released in list order. -/
def trimExtents (l : LayerId) (keep : Nat) (s : State) : State :=
  let x := s.layer l
  if x.extents.length ≤ keep then s
  else release ((x.extents.drop keep).map Extent.block) (s.setLayer l { x with extents := x.extents.take keep })

/-- ceil(n / 4,096) (R54). -/
def blocksFor (n : Nat) : Nat := ceilDiv n Config.blockWords

/-! ### Layer words (R54, R98, R99) -/

/-- §5.1: word w of block b lies at byte address 16,384 × b + 4 × w. -/
def wordAddress (block w : Nat) : Nat := 16384 * block + 4 * w

/-- R98: the word at a stored index; a blank entry reads 0. -/
def layerWord (s : State) (l : LayerId) (i : Nat) : Word :=
  match (s.layer l).extents[i / Config.blockWords]? with
  | none => 0#32
  | some e =>
    if e.blank then 0#32 else readWord dramDefault s.dram (wordAddress e.block (i % Config.blockWords))

/-- R99: the first write into a blank entry fills the block with silence, stores the word and clears the mark. -/
def storeLayerWord (l : LayerId) (i : Nat) (w : Word) (s : State) : State :=
  let k := i / Config.blockWords
  match (s.layer l).extents[k]? with
  | none => s
  | some e =>
    let a := wordAddress e.block (i % Config.blockWords)
    if e.blank then
      let s := s.modLayer l fun x => { x with extents := x.extents.set k ⟨e.block, false⟩ }
      { s with dram := writeWord dramDefault (clearBytes s.dram (wordAddress e.block 0) 16384) a w }
    else { s with dram := writeWord dramDefault s.dram a w }

/-- Words stored at consecutive stored indices, modulo `n`, from `i` on. -/
def storeLayerWords (l : LayerId) (n : Nat) : Nat → List Word → State → State
  | _, [], s => s
  | i, w :: rest, s => storeLayerWords l n (i + 1) rest (storeLayerWord l (i % n) w s)

/-! ### Start of a fade (R57, R118) -/

/-- R118: a fade whose target equals the current value is not started, and a running one ends. `fresh`: the fades'
advance of this boundary is still to be taken (R119). -/
def fadeFrom (fresh : Bool) (env target : Nat) : Option Fade :=
  if env = target then none else some ⟨env, target, 0, false, fresh⟩

def startLayerFade (l : LayerId) (target : Nat) (s : State) : State :=
  s.modLayer l fun x => { x with fade := fadeFrom s.mixer.fadesDue x.env target }

def startTrackFade (t : TrackId) (target : Nat) (s : State) : State :=
  s.modTrack t fun x => { x with fade := fadeFrom s.mixer.fadesDue x.env target }

/-- R118: a rule that sets an envelope outright ends any fade on it. -/
def setLayerEnv (l : LayerId) (v : Nat) (s : State) : State :=
  s.modLayer l fun x => { x with env := v, fade := none }

/-! ### Heads (R72, R76) -/

/-- The head that records a layer. -/
def headOf (s : State) (l : LayerId) : Option HeadId :=
  headIds.find? fun h => match s.head h with
    | some held => held.layer == l
    | none => false

/-- The other head. -/
def otherHead (h : HeadId) : HeadId := if h = 0 then 1 else 0

/-- Set the opening order of a head, if it is held. -/
def setNewer (h : HeadId) (newer : Bool) (s : State) : State :=
  match s.head h with
  | none => s
  | some held => s.setHead h (some { held with newer := newer })

/-- R76: the head becomes FREE and a remaining HELD head becomes NEWER. -/
def releaseHead (h : HeadId) (s : State) : State := setNewer (otherHead h) true (s.setHead h none)

/-- Release the head that records the layer, if one does. -/
def releaseHeadOf (l : LayerId) (s : State) : State :=
  match headOf s l with
  | none => s
  | some h => releaseHead h s

/-! ### End of a store operation (R164) -/

/-- A detail the manual does not state (log 24). -/
def drawDetail (s : State) : Detail × State := (.unstated s.freeCount, { s with freeCount := s.freeCount + 1 })

/-- The engine after an operation: IDLE, or still STARTING when a RESTART found the operation (R176). -/
def engineAfterOp (s : State) : EngineState := if s.store.engine = .starting then .starting else .idle

/-- R164: an operation is over: its result is recorded, no operation runs, STORE_DONE goes to the requester. -/
def reportStore (kind : StoreKind) (requester : Station) (r : StoreResult) (progress : Nat) (d : Detail) (s : State) :
    State :=
  raiseTo requester .storeDone { s with store := { s.store with
    engine := engineAfterOp s, running := none, last := some ⟨kind, requester, r, progress, d⟩ } }

/-- R164: the running operation ends. -/
def endStoreOp (r : StoreResult) (d : Detail) (s : State) : State :=
  match s.store.running with
  | none => s
  | some op => reportStore op.job.kind op.requester r op.progress d s

/-- A result whose detail the manual does not state. -/
def endStoreUnstated (r : StoreResult) (s : State) : State :=
  let (d, s) := drawDetail s
  endStoreOp r d s

/-- R176: an operation that a RESTART found takes RESTARTED with its progress, and no STORE_DONE is raised. -/
def endRestarted (s : State) : State :=
  match s.store.running with
  | none => s
  | some op =>
    let (d, s) := drawDetail s
    { s with store := { s.store with
      engine := engineAfterOp s, running := none
      last := some ⟨op.job.kind, op.requester, .restarted, op.progress, d⟩ } }

/-- R175, R168, R171: ABORTED with the progress as detail. -/
def endAborted (s : State) : State :=
  match s.store.running with
  | none => s
  | some op => endStoreOp .aborted (.value op.progress) s

/-- R168, R169, R171: a SAVE, VERIFY or LOAD whose layer is purged ends with ABORTED at that event. Of the page that a SAVE
has in progress nothing is programmed (the model's choice, log 20). -/
def storeLayerGone (l : LayerId) (s : State) : State :=
  match s.store.running with
  | none => s
  | some op =>
    match op.job with
    | .save x .. => if x = l then endAborted s else s
    | .load x .. => if x = l then endAborted s else s
    | .verify x .. => if x = l then endStoreUnstated .aborted s else s
    | _ => s

/-- A LOAD is running (R6, R70). -/
def loadRunning (s : State) : Bool :=
  match s.store.running with
  | some ⟨.load .., _, _, _, _⟩ => true
  | _ => false

/-- A LOAD is still filling this layer (R70, R154). -/
def loadFilling (s : State) (l : LayerId) : Bool :=
  match s.store.running with
  | some ⟨.load x .., _, _, _, _⟩ => x == l
  | _ => false

/-! ### Purges (R62) -/

/-- R62 step 1, on the track's lists and fields. -/
def Track.without (l : LayerId) (x : Track) : Track :=
  { x with
    stack := x.stack.filter (· != l)
    redo := x.redo.filter (· != l)
    take := if x.take = some l then none else x.take
    takeStation := if x.take = some l then none else x.takeStation
    prepared := if x.prepared = some l then none else x.prepared }

def leaveTrack (l : LayerId) (s : State) : State :=
  match (s.layer l).track with
  | none => s
  | some t => s.modTrack t (Track.without l)

/-- R62 step 2. -/
def leaveBudget (l : LayerId) (s : State) : State :=
  { s with budget := { s.budget with
      shedList := s.budget.shedList.filter (· != l), reserve := s.budget.reserve.filter (· != l) } }

/-- R160: one station's window, if OPEN on the layer, becomes LOST. -/
def loseWindow (l : LayerId) (s : State) (st : Station) : State :=
  let w := s.window st
  if w.state = .opened ∧ w.layer = some l then raiseTo st .windowLost (s.setWindow st { w with state := .lost })
  else s

/-- R62 step 4. -/
def loseWindows (l : LayerId) (s : State) : State := stations.foldl (loseWindow l) s

/-- R62 steps 1, 2, 4, 5 and 6, with the release of a take's head and the end of a store operation on the layer. -/
def purgeLayer (l : LayerId) (s : State) : State :=
  let blocks := (s.layer l).extents.map Extent.block
  let s := leaveTrack l s
  let s := leaveBudget l s
  let s := releaseHeadOf l s
  let s := storeLayerGone l s
  let s := loseWindows l s
  let s := release blocks s
  s.setLayer l Layer.free

/-- Clear the folding mark (R58). -/
def clearFolding (l : LayerId) (s : State) : State := s.modLayer l fun x => { x with folding := false }

/-- The fold job ends: marks clear, engine IDLE, fold-paused flag clear, and a start attempt is asked for (R149, R143). -/
def endFold (s : State) : State :=
  match s.fold.job with
  | none => s
  | some j =>
    let s := clearFolding j.b (clearFolding j.a s)
    { s with
      fold := { s.fold with job := none, advanceDue := false, attemptDue := true }
      budget := { s.budget with foldPaused := false } }

/-- R149: marks clear, the result purged, the job ended. -/
def abandonFold (s : State) : State :=
  match s.fold.job with
  | none => s
  | some j => purgeLayer j.result (endFold s)

/-- R62, step 3 included: a purge of a fold's source abandons the fold, a purge of its result ends the job. -/
def purge (l : LayerId) (s : State) : State :=
  match s.fold.job with
  | none => purgeLayer l s
  | some j =>
    if l = j.result then purgeLayer l (endFold s)
    else if (s.layer l).folding then purgeLayer l (abandonFold s)
    else purgeLayer l s

/-- Several layers purged by one event, in the order of the list (R62). -/
def purgeAll (ls : List LayerId) (s : State) : State := ls.foldl (fun s l => purge l s) s

/-- Purge the redo list, front to back (R60, R61). -/
def purgeRedo (t : TrackId) (s : State) : State := purgeAll (s.track t).redo s

/-! ### The fold-wanted flag (R142) and the push of a closed take (R60) -/

/-- R142: set if FT is not 0 and the stack holds at least FT layers; setting it asks for a start attempt (R143). -/
def testFoldWanted (t : TrackId) (s : State) : State :=
  if s.fold.threshold ≠ 0 ∧ s.fold.threshold ≤ (s.track t).stack.length then
    { s.modTrack t fun x => { x with foldWanted := true } with fold := { s.fold with attemptDue := true } }
  else s

/-- R60: the redo list is purged, the take leaves the take field, becomes LIVE at full envelope and is pushed, and the
fold-wanted flag is tested. -/
def pushTake (t : TrackId) (l : LayerId) (s : State) : State :=
  let s := purgeRedo t s
  let s := s.modLayer l fun x => { x with state := .live, env := Config.unity, fade := none }
  let s := s.modTrack t fun x => { x with take := none, takeStation := none, stack := x.stack ++ [l] }
  testFoldWanted t s

/-- The lowest-numbered FREE slot (R50). -/
def freeSlot (s : State) : Option LayerId := layerIds.find? fun l => (s.layer l).state == .free

/-- A discarded first take leaves the track EMPTY with bars, TLF and position 0 (R14, R45, R83). -/
def emptyTrack (t : TrackId) (s : State) : State :=
  s.modTrack t fun x => { x with state := .empty, bars := 0, tlf := 0, pos := 0 }

/-- Put a track into a state, nothing else. -/
def setTrackState (t : TrackId) (st : TrackState) (s : State) : State := s.modTrack t fun x => { x with state := st }

end Sys2Proof.Machine
end

