-- ==== Sys2Proof/Machine/Grid.lean ====
section
/-! DEFINITION. Grid Unit (chapter 1): the position and its events, the choice of a captured tempo, wait distances and grace. -/

namespace Sys2Proof.Machine

/-! ### The record (R1, R2, R3) -/

def Tempo.barFrames (g : Tempo) : Nat := g.bpb * g.fpb
def Tempo.cycleLen (g : Tempo) : Nat := g.cb * g.barFrames
/-- The cycle index x. -/
def Tempo.index (g : Tempo) : Nat := (g.bar * g.bpb + g.beat) * g.fpb + g.f

/-- The record with a position given by its cycle index (R13, R6). -/
def Tempo.atIndex (fpb bpb cb x : Nat) : Tempo :=
  { fpb := fpb, bpb := bpb, cb := cb, bar := x / (bpb * fpb), beat := x % (bpb * fpb) / fpb, f := x % fpb }

/-- R2: the position moves on by one frame. -/
def Tempo.advance (g : Tempo) : Tempo :=
  if g.f + 1 < g.fpb then { g with f := g.f + 1 }
  else if g.beat + 1 < g.bpb then { g with f := 0, beat := g.beat + 1 }
  else if g.bar + 1 < g.cb then { g with f := 0, beat := 0, bar := g.bar + 1 }
  else { g with f := 0, beat := 0, bar := 0 }

/-- The position starts a bar. -/
def Tempo.startsBar (g : Tempo) : Bool := g.f == 0 && g.beat == 0

/-- The events of R2's table for a position. -/
def raisePosition (g : Tempo) (s : State) : State :=
  if g.f = 0 then
    let s := raiseAll .beat s
    if g.beat = 0 then
      let s := raiseAll .bar s
      if g.bar = 0 then raiseAll .cycle s else s
    else s
  else s

/-- R3: the grid enters SET at a position, for the frame in progress, and raises that position's events. The restore and
the fold attempt of that BAR find nothing to do (log 28). -/
def enterGrid (g : Tempo) (s : State) : State :=
  raisePosition g { s with grid := { s.grid with tempo := some g, beatDue := false } }

/-- R2, in FRAME_BOUNDARY: the position advances; at f = 0 BEAT_BOUNDARY falls due (log 4). -/
def advanceGrid (s : State) : State :=
  match s.grid.tempo with
  | none => s
  | some g =>
    let g := g.advance
    { s with grid := { s.grid with tempo := some g, beatDue := g.f == 0 } }

/-- Bar frames of the grid in force; 0 while UNSET. -/
def barFrames (s : State) : Nat :=
  match s.grid.tempo with
  | none => 0
  | some g => g.barFrames

/-! ### Setting and clearing by request (R6, R7) -/

/-- The three conditions of GRID_IN_USE. -/
def gridInUse (s : State) : Bool :=
  (trackIds.any fun t => (s.track t).state != .empty || (s.track t).prepared.isSome) || loadRunning s

/-- R6, R7, R42: every waiting entry is removed with reason GRID, front first. -/
def dropAllGrid (s : State) : State :=
  s.queue.foldl (fun s e => tellDrop e.station e.track e.action .grid s) { s with queue := [] }

/-! ### Tempo capture (R10 to R12) -/

/-- R10: a candidate c whose raw tempo lies in [2P/3, 4P/3). -/
def captureFits (l p b c : Nat) : Bool := decide (2 * p * c * b ≤ 3 * l) && decide (3 * l < 4 * p * c * b)

/-- R10: CB. -/
def captureCb (capb l p b : Nat) : Nat :=
  if 1 ≤ capb then capb
  else match [1, 2, 4, 8, 16].find? (captureFits l p b) with
    | some c => c
    | none => if 3 * l < 2 * p * b then 1 else 16

/-- R11: L / (CB × b) to nearest, halves up. -/
def captureFpb (l n : Nat) : Nat := (l + n / 2) / n

def fpbInRange (fpb : Nat) : Bool := decide (12000 ≤ fpb) && decide (fpb ≤ 48000)

/-- R15 step 1: L / B to nearest with halves up, at most 32. -/
def fitBars (l barF : Nat) : Nat := min ((l + barF / 2) / barF) 32

/-! ### Wait distance, grace and re-arm (R16 to R20) -/

/-- The index x and period K of a kind, with the LOOP substitution (§1.4, R16). -/
def periodOf (g : Tempo) (x : Track) : Quantize → Nat × Nat
  | .now => (0, 1)
  | .beat => (g.index, g.fpb)
  | .bar => (g.index, g.barFrames)
  | .cycle => (g.index, g.cycleLen)
  | .loop =>
    match x.state with
    | .playing | .overdub | .muted => (x.pos, x.tlf)
    | .empty | .firstRec => (g.index, g.barFrames)

/-- R17, fourth row: the actions that grace covers. -/
def hasGrace : Action → Bool
  | .record | .overdub | .stop => true
  | .mute | .unmute | .undo | .redo | .clear | .commit => false

/-- R18: a STOP on a first take under a SET grid; (R, trim). -/
def stopDistance (l k grace : Nat) : Nat × Nat :=
  let e := l % k
  if l < k then (k - l, 0)
  else if e ≤ grace then (1, e + 1)
  else (k - e, 0)

/-- R17: (R, δ) of an action accepted for a track. -/
def waitDistance (s : State) (t : TrackId) (a : Action) (q : Quantize) : Nat × Nat :=
  match s.grid.tempo with
  | none => (1, 0)
  | some g =>
    let x := s.track t
    if a = .stop ∧ x.state = .firstRec then stopDistance x.pos g.barFrames s.grid.grace
    else if q = .now then (1, 0)
    else
      let (i, k) := periodOf g x q
      let e := i % k
      if hasGrace a ∧ e ≤ s.grid.grace then (1, e + 1) else (k - e, 0)

/-- R20: the re-arm distance, on the frame that begins at the failed boundary. -/
def rearmDistance (s : State) (t : TrackId) (q : Quantize) : Nat :=
  match s.grid.tempo with
  | none => Config.rearmNow
  | some g =>
    if q = .now then Config.rearmNow
    else
      let (i, k) := periodOf g (s.track t) q
      k - i % k

end Sys2Proof.Machine
end

