-- ==== Sys2Proof/Machine/Operands.lean ====
section
/-! DEFINITION. Operand forms: the request bodies of §11.5 read from their bytes, the length and field checks of R183, and
the conversions of checked fields. -/

namespace Sys2Proof.Machine

/-! ### Fields of a body, little-endian (Introduction, Packets; §11.5) -/

def u8 (b : List Byte) (i : Nat) : Byte := b.getD i 0#8
def u16 (b : List Byte) (i : Nat) : BitVec 16 := u8 b (i + 1) ++ u8 b i
def u24 (b : List Byte) (i : Nat) : BitVec 24 := u8 b (i + 2) ++ u8 b (i + 1) ++ u8 b i
def u32 (b : List Byte) (i : Nat) : Word := u8 b (i + 3) ++ u8 b (i + 2) ++ u8 b (i + 1) ++ u8 b i

/-- The sample words of a WRITE DATA body. -/
def bodyWords (b : List Byte) : List Word := (List.range (b.length / 4)).map fun i => u32 b (4 * i)

/-- The entries of a SET STARTUP body. -/
def bodyEntries (b : List Byte) : List (Byte × BitVec 16) :=
  (List.range (b.length / 3)).map fun i => (u8 b (3 * i), u16 b (3 * i + 1))

/-! ### Kinds and lengths (R183 steps 2 and 3, §11.5) -/

/-- A kind that allows one length. -/
def exactly (n : Nat) (b : List Byte) (i : Instr) : Option (Option Instr) :=
  some (if b.length = n then some i else none)

/-- R157: 1 to 60 words, a whole number of them. -/
def writeLength (n : Nat) : Bool := decide (4 ≤ n) && decide (n ≤ 240) && n % 4 == 0

/-- §11.5: 0, 3, 6, 9 or 12 bytes. -/
def startupLength (n : Nat) : Bool := decide (n ≤ 12) && n % 3 == 0

/-- The command index: none is a kind outside it, `some none` a length that the kind does not allow. -/
def parseBody (st : Station) (kind : Nat) (b : List Byte) : Option (Option Instr) :=
  match kind with
  | 0x00 => exactly 0 b (.nop st)
  | 0x10 => exactly 4 b (.setGrid st (u16 b 0) (u8 b 2) (u8 b 3))
  | 0x11 => exactly 0 b (.clearGrid st)
  | 0x12 => exactly 6 b (.setCapture st (u8 b 0) (u8 b 1) (u16 b 2) (u16 b 4))
  | 0x20 => exactly 6 b (.act st (u8 b 0) (u8 b 1) (u8 b 2) (u8 b 3) (u8 b 4) (u8 b 5))
  | 0x21 => exactly 1 b (.cancel st (u8 b 0))
  | 0x22 => exactly 6 b (.setTrack st (u8 b 0) (u24 b 1) (u8 b 4) (u8 b 5))
  | 0x23 => exactly 2 b (.guard st (u8 b 0) (u8 b 1))
  | 0x24 => exactly 1 b (.unguard st (u8 b 0))
  | 0x30 => exactly 5 b (.setLayer st (u8 b 0) (u24 b 1) (u8 b 4))
  | 0x31 => exactly 5 b (.rotate st (u8 b 0) (u32 b 1))
  | 0x32 => exactly 2 b (.createLayer st (u8 b 0) (u8 b 1))
  | 0x40 => exactly 10 b (.openWindow st (u8 b 0) (u32 b 1) (u32 b 5) (u8 b 9))
  | 0x41 => some (if writeLength b.length then some (.writeData st (bodyWords b)) else none)
  | 0x42 => exactly 1 b (.readData st (u8 b 0))
  | 0x43 => exactly 0 b (.closeWindow st)
  | 0x50 => exactly 4 b (.erase st (u16 b 0) (u16 b 2))
  | 0x51 => exactly 4 b (.blankCheck st (u16 b 0) (u16 b 2))
  | 0x52 => exactly 3 b (.save st (u8 b 0) (u16 b 1))
  | 0x53 => exactly 3 b (.load st (u16 b 0) (u8 b 2))
  | 0x54 => exactly 3 b (.verify st (u8 b 0) (u16 b 1))
  | 0x55 => exactly 4 b (.sum st (u16 b 0) (u16 b 2))
  | 0x56 => exactly 3 b (.protect st (u16 b 0) (u8 b 2))
  | 0x57 => some (if startupLength b.length then some (.setStartup st (bodyEntries b)) else none)
  | 0x58 => exactly 0 b (.release st)
  | 0x59 => exactly 0 b (.abortStore st)
  | 0x60 => exactly 18 b (.setFade st (u16 b 0) (Vector.ofFn fun i => u8 b (2 + i.val)))
  | 0x61 => exactly 28 b (.setBands st (u16 b 0) (u16 b 2) (u16 b 4) (u16 b 6)
      (Vector.ofFn fun i => u16 b (8 + 2 * i.val)) (Vector.ofFn fun i => u24 b (16 + 3 * i.val)))
  | 0x62 => exactly 2 b (.setFold st (u16 b 0))
  | 0x63 => exactly 3 b (.setRouting st (u8 b 0) (u16 b 1))
  | 0x64 => exactly 2 b (.setLowMark st (u16 b 0))
  | 0x65 => exactly 6 b (.setBus st (u24 b 0) (u24 b 3))
  | 0x70 => exactly 0 b (.readGrid st)
  | 0x71 => exactly 1 b (.readTrack st (u8 b 0))
  | 0x72 => exactly 1 b (.readLayer st (u8 b 0))
  | 0x73 => exactly 0 b (.readSupply st)
  | 0x74 => exactly 0 b (.readStore st)
  | 0x75 => exactly 0 b (.readEvents st)
  | 0x76 => exactly 0 b (.readClips st)
  | 0x77 => exactly 0 b (.readIdent st)
  | 0x7F => exactly 0 b (.restart st)
  | _ => none

/-! ### Checks of a request given by its fields (R183 steps 3 to 5) -/

/-- Step 3 for the two requests whose operand is a list. -/
def lengthOk : Instr → Bool
  | .writeData _ ws => decide (1 ≤ ws.length) && decide (ws.length ≤ 60)
  | .setStartup _ es => decide (es.length ≤ 4)
  | _ => true

/-- Step 4: the four kinds that are served while the Store Engine is STARTING (R177). -/
def servedStarting : Instr → Bool
  | .nop _ | .readIdent _ | .readStore _ | .readSupply _ => true
  | _ => false

def inRange {w : Nat} (lo hi : Nat) (x : BitVec w) : Bool := decide (lo ≤ x.toNat) && decide (x.toNat ≤ hi)

/-- R25, R191: the ACT body. -/
def actFieldsOk (track action quantize srcStation srcChannel chain : Byte) : Bool :=
  inRange 0 7 track && (Quantize.ofByte quantize).isSome &&
    match Action.ofByte action with
    | none => false
    | some .record | some .overdub => inRange 0 3 srcStation && inRange 0 1 srcChannel
    | some .stop => inRange 0 1 chain
    | some _ => true

/-- R124: a carried budget. -/
def clampBudget (b : BitVec 16) : Nat := clamp 1 48 b.toNat

/-- R124: the checks of SET BANDS. -/
def bandsFieldsOk (ta tb tc hy : BitVec 16) (budgets : Vector (BitVec 16) 4) : Bool :=
  inRange 0 2550 ta && inRange 0 2550 tb && inRange 0 2550 tc && decide (tb.toNat < ta.toNat) &&
    decide (tc.toNat < tb.toNat) && inRange 0 200 hy &&
    decide (clampBudget (budgets.get 1) ≤ clampBudget (budgets.get 0)) &&
    decide (clampBudget (budgets.get 2) ≤ clampBudget (budgets.get 1)) &&
    decide (clampBudget (budgets.get 3) ≤ clampBudget (budgets.get 2))

/-- R173: the entries of SET STARTUP. -/
def startupFieldsOk (es : List (Byte × BitVec 16)) : Bool :=
  (es.all fun e => inRange 0 7 e.1 && inRange 0 1022 e.2) && decide (es.map Prod.fst).Nodup

/-- Step 5: the field ranges of each request's own rule and the codes of §11.6; false is PARAM. The model's choices (log 27):
PARAM for a count of ERASE, BLANK CHECK or SUM outside its rule's range, and for a VERIFY whose first sector lies above 1,022,
the port check that R168 gives SAVE. -/
def fieldsOk : Instr → Bool
  | .setGrid _ fpb bpb cb => inRange 12000 48000 fpb && inRange 1 12 bpb && inRange 1 16 cb
  | .setCapture _ capb capBpb _ _ => inRange 0 16 capb && inRange 1 12 capBpb
  | .act _ t a q ss sc ch => actFieldsOk t a q ss sc ch
  | .cancel _ t => inRange 0 7 t
  | .setTrack _ t _ bus rank => inRange 0 7 t && inRange 0 2 bus && inRange 0 7 rank
  | .guard _ t flags => inRange 0 7 t && inRange 0 31 flags
  | .unguard _ t => inRange 0 7 t
  | .setLayer _ l _ pinned => inRange 0 63 l && inRange 0 1 pinned
  | .rotate _ l _ => inRange 0 63 l
  | .createLayer _ t bars => inRange 0 7 t && inRange 0 32 bars
  | .openWindow _ l _ _ dir => inRange 0 63 l && inRange 0 1 dir
  | .readData _ k => inRange 1 60 k
  | .erase _ _ count => inRange 1 1023 count
  | .blankCheck _ _ count => inRange 1 1023 count
  | .sum _ _ count => inRange 1 1024 count
  | .save _ l first => inRange 0 63 l && inRange 0 1022 first
  | .verify _ l first => inRange 0 63 l && inRange 0 1022 first
  | .load _ first t => inRange 0 1022 first && inRange 0 7 t
  | .protect _ floor flags => inRange 0 1023 floor && inRange 0 3 flags
  | .setStartup _ es => startupFieldsOk es
  | .setBands _ ta tb tc hy budgets _ => bandsFieldsOk ta tb tc hy budgets
  | .setRouting _ n mask => inRange 0 3 n && inRange 0 16383 mask
  | .readTrack _ t => inRange 0 7 t
  | .readLayer _ l => inRange 0 63 l
  | _ => true

/-- R183 steps 3 to 5, in order: the first that fails gives the reply code. Step 4 gives STARTING to SET FOLD, SET BUS and
SET FADE too, though R141, R110 and R115 answer them OK "in every state of the part" (the model's reading, log 49). -/
def requestCheck (s : State) (i : Instr) : Option Code :=
  if lengthOk i = false then some .badLength
  else if s.store.engine = .starting ∧ servedStarting i = false then some .starting
  else if fieldsOk i = false then some .param
  else none

/-- R183 steps 1 to 5 for a packet: the request it holds, or the reply code of the first failing check. -/
def packetCheck (s : State) (st : Station) (kind len : Byte) (body : List Byte) (check : Byte) : Except Code Instr :=
  if (kind.toNat + len.toNat + (body.map BitVec.toNat).sum + check.toNat) % 256 ≠ 255 then .error .badCheck
  else
    match parseBody st kind.toNat body with
    | none => .error .badKind
    | some none => .error .badLength
    | some (some i) =>
      match requestCheck s i with
      | some c => .error c
      | none => .ok i

/-! ### Checked fields -/

def trackOf (b : Byte) : TrackId := Fin.ofNat 8 b.toNat
def layerOf (b : Byte) : LayerId := Fin.ofNat 64 b.toNat
def stationOf (b : Byte) : Station := Fin.ofNat 4 b.toNat

/-- Source number: station × 2 + channel (§11.6). -/
def sourceOf (srcStation srcChannel : Byte) : SourceId := Fin.ofNat 8 (srcStation.toNat * 2 + srcChannel.toNat)

/-! ### Replies -/

/-- R184: a reply with no body. -/
def plain (c : Code) : Reply := ⟨c, []⟩

/-- An OK reply with a body. -/
def okWith (body : List Byte) : Reply := ⟨.ok, body⟩

/-- A field that names something or is none (R191: 0xFF). -/
def orNone {n : Nat} (x : Option (Fin n)) : Byte :=
  match x with
  | none => 0xFF#8
  | some i => BitVec.ofNat 8 i.val

/-- A count in one byte and that many ids. -/
def idList {n : Nat} (ids : List (Fin n)) : List Byte :=
  BitVec.ofNat 8 ids.length :: ids.map fun i => BitVec.ofNat 8 i.val

end Sys2Proof.Machine
end

