-- ==== Sys2Proof/Machine/GridRequests.lean ====
section
/-! DEFINITION. The Grid Unit's requests, as executed: SET GRID, CLEAR GRID, SET CAPTURE, READ GRID. -/

namespace Sys2Proof.Machine

/-- R183: NOP is answered OK and has no effect. -/
def doNop (s : State) : Reply × State := (plain .ok, s)

/-- R6: with the grid SET, waiting entries are dropped with GRID; with it UNSET they stay. -/
def dropIfSet (s : State) : State := if s.grid.tempo.isSome then dropAllGrid s else s

/-- R6. -/
def doSetGrid (fpb : BitVec 16) (bpb cb : Byte) (s : State) : Reply × State :=
  if gridInUse s then (plain .gridInUse, s)
  else (plain .ok, enterGrid (Tempo.atIndex fpb.toNat bpb.toNat cb.toNat 0) (dropIfSet s))

/-- R7. -/
def doClearGrid (s : State) : Reply × State :=
  if gridInUse s then (plain .gridInUse, s)
  else if s.grid.tempo.isNone then (plain .ok, s)
  else
    let s := dropAllGrid s
    (plain .ok, { s with grid := { s.grid with tempo := none, beatDue := false } })

/-- R8. -/
def doSetCapture (capb capBpb : Byte) (pref grace : BitVec 16) (s : State) : Reply × State :=
  (plain .ok, { s with grid := { s.grid with
    capb := capb.toNat, capBpb := capBpb.toNat, pref := clamp 12000 48000 pref.toNat,
    grace := clamp 0 4095 grace.toNat } })

/-- The grid record of a READ GRID, state through x; zeros while UNSET (R5). -/
def tempoBytes : Option Tempo → List Byte
  | none => leBytes 21 0
  | some g =>
    leBytes 1 1 ++ leBytes 2 g.fpb ++ leBytes 1 g.bpb ++ leBytes 1 g.cb ++ leBytes 4 g.barFrames ++
      leBytes 4 g.cycleLen ++ leBytes 1 g.bar ++ leBytes 1 g.beat ++ leBytes 2 g.f ++ leBytes 4 g.index

/-- R5. -/
def doReadGrid (s : State) : Reply × State :=
  let g := s.grid
  (okWith (tempoBytes g.tempo ++ leBytes 1 g.capb ++ leBytes 1 g.capBpb ++ leBytes 2 g.pref ++ leBytes 2 g.grace), s)

end Sys2Proof.Machine
end

