-- ==== Sys2Proof/Machine/Budget.lean ====
section
/-! DEFINITION. Budget Unit (chapter 7): the count, the shed order, shedding, the fade reserve, admission and restore. -/

namespace Sys2Proof.Machine

/-! ### The count (R127) -/

/-- R127: a MUTED track with a track fade running. -/
def Track.sounding (x : Track) : Bool := x.fade.isSome

/-- The track's LIVE layers without the shed mark are counted. -/
def Track.counted (x : Track) : Bool :=
  match x.state with
  | .playing | .overdub => true
  | .muted => x.sounding
  | .empty | .firstRec => false

/-- R127: MUTED with no track fade running. -/
def Track.silentMuted (x : Track) : Bool := x.state == .muted && !x.sounding

/-- LIVE without the shed mark. -/
def Layer.unshed (x : Layer) : Bool := x.state == .live && !x.shed

/-- The counted layers of one track, bottom to top: they are also its shed candidates (R129). -/
def countedLayers (s : State) (t : TrackId) : List LayerId :=
  if (s.track t).counted then (s.track t).stack.filter fun l => (s.layer l).unshed else []

def recordings (s : State) : Nat := (layerIds.filter fun l => (s.layer l).state == .recording).length

/-- The fold job counts 3 while it runs with the fold-paused flag clear (R135). -/
def foldStreams (s : State) : Nat := if s.fold.job.isSome && !s.budget.foldPaused then 3 else 0

def streamCount (s : State) : Nat :=
  recordings s + (trackIds.flatMap (countedLayers s)).length + foldStreams s

/-! ### The shed order (R129) -/

def tracksDown : List TrackId := [7, 6, 5, 4, 3, 2, 1, 0]
def ranksDown : List Nat := [7, 6, 5, 4, 3, 2, 1, 0]

/-- The candidates with a given pin, on tracks of a given rank, higher-numbered track first, lower in the stack first. -/
def shedGroup (s : State) (pin : Bool) (rank : Nat) : List LayerId :=
  tracksDown.flatMap fun t =>
    if (s.track t).rank = rank then (countedLayers s t).filter fun l => (s.layer l).pinned == pin else []

/-- R129: unpinned before pinned, then higher rank, higher track, lower in the stack. -/
def shedOrder (s : State) : List LayerId :=
  [false, true].flatMap fun pin => ranksDown.flatMap (shedGroup s pin)

/-! ### The fade reserve (R132) -/

/-- A layer asks for a place for its fade toward 0; with the reserve full the fade is cut. -/
def askReserve (l : LayerId) (s : State) : State :=
  if l ∈ s.budget.reserve then s
  else if s.budget.reserve.length < Config.reserveMax then
    { s with budget := { s.budget with reserve := s.budget.reserve ++ [l] } }
  else setLayerEnv l 0 s

/-- A fade toward 0 of a layer that is out of the count: none if it stands at 0, else a reserve place or a cut. -/
def fadeOut (l : LayerId) (s : State) : State :=
  if (s.layer l).env = 0 then setLayerEnv l 0 s else askReserve l (startLayerFade l 0 s)

/-- E_track of a layer's track; a layer without a track has none (no such layer is LIVE). -/
def trackEnvOf (s : State) (l : LayerId) : Nat :=
  match (s.layer l).track with
  | none => 0
  | some t => (s.track t).env

/-- R130. -/
def shedLayer (l : LayerId) (s : State) : State :=
  let s := s.modLayer l fun x => { x with shed := true }
  let s := { s with budget := { s.budget with shedList := s.budget.shedList ++ [l] } }
  let s := if trackEnvOf s l = 0 then setLayerEnv l 0 s else fadeOut l s
  raiseAll .shed s

/-- Shed the first `n` candidates of the shed order. -/
def shedFirst (n : Nat) (s : State) : State := ((shedOrder s).take n).foldl (fun s l => shedLayer l s) s

/-! ### Admission (R128, R133, R134) -/

/-- R133 for a demand of 1: fits as it stands, fits after shedding, or does not fit (none). -/
def admitOne (s : State) : Option State :=
  let c := streamCount s
  if c + 1 ≤ s.budget.limit then some s
  else if c + 1 ≤ s.budget.limit + (shedOrder s).length then some (shedFirst (c + 1 - s.budget.limit) s)
  else none

/-- R128: a REDO or COMMIT has demand 0 on a silent MUTED track, else 1. -/
def admitOnto (t : TrackId) (s : State) : Option State :=
  if (s.track t).silentMuted then some s else admitOne s

/-- R134, R136: shed in shed order until the count is within budget. -/
def shedToBudget (s : State) : State := shedFirst (streamCount s - s.budget.limit) s

/-- Bands in which a fold may start or resume, with room for 3 (R135). -/
def foldFits (s : State) : Bool :=
  (s.budget.band == .full || s.budget.band == .trim) && decide (streamCount s + 3 ≤ s.budget.limit)

/-- R135: at BAR a paused fold resumes if it fits. -/
def resumeFold (s : State) : State :=
  if s.fold.job.isSome ∧ s.budget.foldPaused = true ∧ foldFits s = true then
    { s with budget := { s.budget with foldPaused := false } }
  else s

/-- R126, R136 step 3: a running fold is paused; it makes no advance at this boundary (R152). -/
def pauseFold (s : State) : State :=
  if s.fold.job.isSome then
    { s with budget := { s.budget with foldPaused := true }, fold := { s.fold with advanceDue := false } }
  else s

/-! ### Restore (R138) -/

/-- Take a layer out of the fade reserve. -/
def leaveReserve (l : LayerId) (s : State) : State :=
  { s with budget := { s.budget with reserve := s.budget.reserve.filter (· != l) } }

/-- The demand of a restore: 0 on a silent MUTED track. -/
def restoreDemand (s : State) (l : LayerId) : Nat :=
  match (s.layer l).track with
  | none => 1
  | some t => if (s.track t).silentMuted then 0 else 1

/-- R138: the layer leaves the shed list and the reserve, its mark clears, it fades in. -/
def restoreLayer (l : LayerId) (s : State) : State :=
  let s := { s with budget := { s.budget with shedList := s.budget.shedList.filter (· != l) } }
  let s := s.modLayer l fun x => { x with shed := false }
  startLayerFade l Config.unity (leaveReserve l s)

/-- R138: from the end of the list, until one does not fit. -/
def restoreFrom : List LayerId → State → State
  | [], s => s
  | l :: rest, s =>
    if streamCount s + restoreDemand s l ≤ s.budget.limit then restoreFrom rest (restoreLayer l s) else s

def restoreShed (s : State) : State := restoreFrom s.budget.shedList.reverse s

/-- UNDO of a layer: its shed mark clears and it leaves the shed list (R63). -/
def unshedLayer (l : LayerId) (s : State) : State :=
  let s := { s with budget := { s.budget with shedList := s.budget.shedList.filter (· != l) } }
  s.modLayer l fun x => { x with shed := false }

/-! ### Budget and ceiling in force (R124, R126) -/

/-- The budget and ceiling of the band in force, from the band table. -/
def enforceBand (s : State) : State :=
  let i := s.budget.band.index
  { s with budget := { s.budget with
      limit := s.budget.table.budgets.get i, ceiling := s.budget.table.ceilings.get i } }

/-- R125: downward steps. -/
def stepDown (tb : BandTable) (v : Nat) : Band → Band
  | .full => if v < tb.ta then (if v < tb.tb then (if v < tb.tc then .reserve else .lean) else .trim) else .full
  | .trim => if v < tb.tb then (if v < tb.tc then .reserve else .lean) else .trim
  | .lean => if v < tb.tc then .reserve else .lean
  | .reserve => .reserve

/-- R125: upward steps. -/
def stepUp (tb : BandTable) (v : Nat) : Band → Band
  | .reserve =>
    if tb.tc + tb.hy ≤ v then
      (if tb.tb + tb.hy ≤ v then (if tb.ta + tb.hy ≤ v then .full else .trim) else .lean)
    else .reserve
  | .lean => if tb.tb + tb.hy ≤ v then (if tb.ta + tb.hy ≤ v then .full else .trim) else .lean
  | .trim => if tb.ta + tb.hy ≤ v then .full else .trim
  | .full => .full

/-- R125: down while it can; if no downward step was taken, up while it can. -/
def moveBand (tb : BandTable) (v : Nat) (b : Band) : Band :=
  let d := stepDown tb v b
  if d = b then stepUp tb v b else d

end Sys2Proof.Machine
end

