-- ==== Sys2Proof/Machine/Mix.lean ====
section
/-! DEFINITION. Mix Engine (chapter 6) and the geometry of a layer (R55, R56): fade curve and advance, mix set, scaling
chain, bus gain, ceiling, clip counters. -/

namespace Sys2Proof.Machine

/-! ### The fade curve (R115, R116) -/

def fadeLength (m : Mixer) : Nat := 16 * m.segLen

/-- If every slope is 0 the curve is computed as if every slope were 1 (R115). -/
def curveSlopes (m : Mixer) : List Nat :=
  if m.slopes.toList.all (· == 0) then List.replicate 16 1 else m.slopes.toList

/-- C(t) (R116), by its formula for t < FL. Where the last slopes in force are 0 the formula reaches 65,536 before FL, though
R116 adds that it stays below (the model's reading, log 52). -/
def curve (m : Mixer) (t : Nat) : Nat :=
  if t < fadeLength m then
    let ms := curveSlopes m
    let s := t / m.segLen
    let num := m.segLen * (ms.take s).sum + (t % m.segLen) * ms.getD s 0
    num * 65536 / (m.segLen * ms.sum)
  else 65536

/-- R117: A + trunc((B − A) × C / 65,536). -/
def fadeValue (a b c : Nat) : Nat := ((a : Int) + Int.tdiv (((b : Int) - a) * c) 65536).toNat

/-- R117, one boundary: t advances; before FL the value is recomputed with the curve in force, at FL the end falls due
and the envelope keeps the value of t = FL − 1 until FADE_END (R119, R122, log 38). A fade that started at this very boundary
stays at t = 0 (R57, R119). -/
def advanceFade (m : Mixer) (env : Nat) (f : Option Fade) : Nat × Option Fade :=
  match f with
  | none => (env, none)
  | some f =>
    let t := f.t + 1
    if f.fresh then (env, some { f with fresh := false })
    else if t < fadeLength m then (fadeValue f.start f.target (curve m t), some { f with t := t })
    else (env, some { f with t := t, reached := true })

def Track.advanceFade (m : Mixer) (x : Track) : Track :=
  let r := Machine.advanceFade m x.env x.fade
  { x with env := r.1, fade := r.2 }

def Layer.advanceFade (m : Mixer) (x : Layer) : Layer :=
  let r := Machine.advanceFade m x.env x.fade
  { x with env := r.1, fade := r.2 }

/-- FADE_ADVANCE: every running fade, on eight track and sixty-four layer envelopes. -/
def advanceFades (s : State) : State :=
  { s with
    tracks := s.tracks.map (Track.advanceFade s.mixer)
    layers := s.layers.map (Layer.advanceFade s.mixer)
    mixer := { s.mixer with fadesDue := false } }

/-- The fades' advance, if it is still to be taken at this boundary (log 7). -/
def advanceFadesIfDue (s : State) : State := if s.mixer.fadesDue then advanceFades s else s

def fadeReached (f : Option Fade) : Bool :=
  match f with
  | some f => f.reached
  | none => false

/-- R117, R121: the end of a fade: the envelope takes the target; a layer at 0 leaves the fade reserve. -/
def endLayerFade (l : LayerId) (s : State) : State :=
  match (s.layer l).fade with
  | some f =>
    if f.reached then
      let s := setLayerEnv l f.target s
      if f.target = 0 then leaveReserve l s else s
    else s
  | none => s

def endTrackFade (t : TrackId) (s : State) : State :=
  match (s.track t).fade with
  | some f => if f.reached then s.modTrack t fun x => { x with env := f.target, fade := none } else s
  | none => s

def endFade (which : FadeSel) (s : State) : State :=
  match which with
  | .track t => endTrackFade t s
  | .layer l => endLayerFade l s

/-- Every fade that has reached FL ends. -/
def endAllFades (s : State) : State :=
  layerIds.foldl (fun s l => endLayerFade l s) (trackIds.foldl (fun s t => endTrackFade t s) s)

/-! ### Geometry of a layer (R55, R56) -/

/-- (a − b) mod n, in 0..n−1 (Introduction, Rounding shift). -/
def subMod (a b n : Nat) : Nat := (((a : Int) - b) % n).toNat

/-- R55: the stored index read at track position p. -/
def storedIndex (x : Layer) (p : Nat) : Nat := subMod p x.offset x.length

/-- R55: distance into the span. -/
def spanDistance (x : Layer) (i : Nat) : Nat := subMod i x.spanStart x.length

def audible (x : Layer) (i : Nat) : Bool := decide (spanDistance x i < x.spanLen)

/-- R56: the edge ramp factor. -/
def edgeRamp (x : Layer) (i : Nat) : Nat :=
  if x.spanLen = x.length then 65536
  else
    let u := spanDistance x i
    min (u + 1) (min (x.spanLen - u) 64) * 1024

/-! ### The scaling chain (R107, R108) -/

/-- The factor c of R108: layer gain, track gain, E_layer, E_track, edge ramp. -/
def chainFactor (layerGain trackGain envLayer envTrack r : Nat) : Int :=
  let a := roundShift (layerGain * trackGain)
  let b := roundShift (a * envLayer)
  let b2 := roundShift (b * envTrack)
  roundShift (b2 * r)

/-- R107, R108: the contribution of one layer of the mix set. -/
def contribution (s : State) (l : LayerId) : Int :=
  let x := s.layer l
  match x.track with
  | none => 0
  | some t =>
    let tr := s.track t
    let i := storedIndex x tr.pos
    if audible x i then
      roundShift (sampleValue (layerWord s l i) * chainFactor x.gain tr.gain x.env tr.env (edgeRamp x i))
    else 0

/-! ### The mix set and the buses (R104, R105, R109) -/

/-- R104: the counted layers, and the layers of the fade reserve, each once. -/
def mixSet (s : State) : List LayerId :=
  let counted := trackIds.flatMap (countedLayers s)
  counted ++ s.budget.reserve.filter fun l => !counted.contains l

/-- R105: the layer's track feeds the bus. -/
def feeds (s : State) (b : Bus) (l : LayerId) : Bool :=
  match (s.layer l).track with
  | none => false
  | some t => (s.track t).bus == b || (s.track t).bus == .both

/-- R109: the exact sum of the contributions that feed a bus. -/
def accumulator (s : State) (b : Bus) : Int :=
  ((mixSet s).filter (feeds s b)).foldl (fun acc l => acc + contribution s l) 0

/-- R111, before the clamp. -/
def busLevel (acc : Int) (gain : Nat) : Int := roundShift (acc * gain)

/-- R112: at 65,535 the counter stays. -/
def countClip (n : Nat) (clipped : Bool) : Nat := if clipped && decide (n < 65535) then n + 1 else n

/-- MIX_FRAME and CLIP: the pair of the frame that begins at this boundary (R106, R111, R112). -/
def mixFrame (s : State) : State :=
  let c : Int := s.budget.ceiling
  let ym := busLevel (accumulator s .main) s.mixer.mainGain
  let yc := busLevel (accumulator s .cue) s.mixer.cueGain
  let pm := clampSym c ym
  let pc := clampSym c yc
  let clipMain := decide (pm ≠ ym)
  let clipCue := decide (pc ≠ yc)
  let s := { s with mixer := { s.mixer with
    pair := ⟨pm, pc⟩, frameOpen := false
    mainClips := countClip s.mixer.mainClips clipMain, cueClips := countClip s.mixer.cueClips clipCue } }
  if clipMain || clipCue then raiseAll .clip s else s

/-- One 32-bit slot of an output lane: the sample in the upper 24 bits (R114). -/
def laneSlot (y : Int) : Word := (BitVec.ofInt 24 y).append 0#8

/-- R114: the left and right slots of AOUT_n in the frame in progress: MAIN and CUE of the frame before, the same on every
lane; in a reset the lane is low. ABCK and AFS run while `s.mixer.clocks` is set. -/
def aoutSlots (s : State) (_st : Station) : Word × Word :=
  if s.mixer.clocks then (laneSlot s.mixer.lane.main, laneSlot s.mixer.lane.cue) else (0#32, 0#32)

end Sys2Proof.Machine
end

