-- ==== Sys2Proof/Machine/Fold.lean ====
section
/-! DEFINITION. Fold Engine (chapter 8): start attempts, advances, completion, restart. -/

namespace Sys2Proof.Machine

/-! ### Start (R143, R144) -/

def clearFoldWanted (t : TrackId) (s : State) : State := s.modTrack t fun x => { x with foldWanted := false }

/-- The flag is stale: FT is 0 or the stack holds fewer than FT layers (R144 step 1). -/
def foldStale (s : State) (t : TrackId) : Bool :=
  s.fold.threshold == 0 || decide ((s.track t).stack.length < s.fold.threshold)

/-- The fold row of R51. -/
def foldRecord (t : TrackId) (tlf : Nat) (pinned : Bool) : Layer :=
  { Layer.free with state := .building, track := some t, origin := some .folded, length := tlf, spanLen := tlf,
                    pinned := pinned, env := Config.unity }

def setFolding (l : LayerId) (s : State) : State := s.modLayer l fun x => { x with folding := true }

/-- R144 step 4. -/
def startFold (t : TrackId) (a b result : LayerId) (s : State) : Option State :=
  let tlf := (s.track t).tlf
  let pinned := (s.layer a).pinned || (s.layer b).pinned
  let s := clearFoldWanted t s
  let s := setFolding b (setFolding a s)
  let s := s.setLayer result (foldRecord t tlf pinned)
  (allocate result (blocksFor tlf) s).map fun s =>
    { s with fold := { s.fold with job := some ⟨t, a, b, result, 0⟩ } }

/-- R144 steps 2 to 4 for a track whose flag is not stale. A failed condition takes nothing. -/
def tryFold (t : TrackId) (s : State) : State :=
  if foldFits s then
    match (s.track t).stack, freeSlot s with
    | a :: b :: _, some r => (startFold t a b r s).getD s
    | _, _ => s
  else s

/-- R143, R144: the lowest-numbered flagged track, passing over stale flags, which are cleared. -/
def attemptFrom : List TrackId → State → State
  | [], s => s
  | t :: rest, s =>
    if (s.track t).foldWanted then
      if foldStale s t then attemptFrom rest (clearFoldWanted t s) else tryFold t s
    else attemptFrom rest s

/-- R143: a start attempt, made only while IDLE. -/
def attemptFold (s : State) : State := if s.fold.job.isNone then attemptFrom trackIds s else s

/-- The attempt that an event asked for (log 29). -/
def runAttempt (s : State) : State :=
  if s.fold.attemptDue then attemptFold { s with fold := { s.fold with attemptDue := false } } else s

/-! ### Advance (R145, R146) -/

/-- R146: one source's part of the result word at index i. Outside the source's span it is 0, as R146 step 2 and R55 say;
R158's sentence that a fold takes a word outside the span as it stands is read as a word inside it (log 42). -/
def foldPart (s : State) (l : LayerId) (tlf i : Nat) : Int :=
  let x := s.layer l
  let j := subMod i x.offset tlf
  if subMod j x.spanStart tlf < x.spanLen then
    roundShift (sampleValue (layerWord s l j) * roundShift ((x.gain : Int) * edgeRamp x j))
  else 0

/-- R146: the result word at index i. -/
def foldWord (s : State) (j : FoldJob) (tlf i : Nat) : Word :=
  wordOfValue (clampSample (foldPart s j.a tlf i + foldPart s j.b tlf i))

/-- R147 step 2, R148: the result's record at the completion. -/
def foldedRecord (pinned bothShed : Bool) (x : Layer) : Layer :=
  { x with state := .live, pinned := pinned, shed := bothShed, env := if bothShed then 0 else Config.unity, fade := none }

/-- R131, last row: the result takes the place of the source nearer the end, and the other place is removed. -/
def foldShedList (a b result : LayerId) (ls : List LayerId) : List LayerId :=
  let later := if ls.idxOf a < ls.idxOf b then b else a
  let other := if later = b then a else b
  (ls.filter (· != other)).map fun l => if l = later then result else l

/-- R147: the fold completes. -/
def completeFold (j : FoldJob) (s : State) : State :=
  let xa := s.layer j.a
  let xb := s.layer j.b
  let bothShed := xa.shed && xb.shed
  let s := s.modLayer j.result (foldedRecord (xa.pinned || xb.pinned) bothShed)
  let s := s.modTrack j.track fun x => { x with stack := j.result :: x.stack.filter fun l => l != j.a && l != j.b }
  let s := if bothShed then
      { s with budget := { s.budget with shedList := foldShedList j.a j.b j.result s.budget.shedList } }
    else s
  let s := purgeAll [j.a, j.b] (endFold s)
  let s := raiseAll .fold s
  testFoldWanted j.track s

/-- R145: the next sixteen result words; the advance that writes the last index completes the job. -/
def advanceFold (s : State) : State :=
  match s.fold.job with
  | none => s
  | some j =>
    let tlf := (s.track j.track).tlf
    let m := min (j.next + 16) tlf
    let words := (List.range' j.next (m - j.next)).map (foldWord s j tlf)
    let s := storeLayerWords j.result tlf j.next words s
    let j := { j with next := m }
    let s := { s with fold := { s.fold with job := some j } }
    if tlf ≤ m then completeFold j s else s

/-- The advance of this boundary, if it is still to be taken. -/
def advanceFoldIfDue (s : State) : State :=
  if s.fold.advanceDue then advanceFold { s with fold := { s.fold with advanceDue := false } } else s

/-- The next advance would write the last index. -/
def foldWouldComplete (s : State) : Bool :=
  match s.fold.job with
  | none => false
  | some j => decide ((s.track j.track).tlf ≤ j.next + 16)

/-- R150: a source's gain or offset changed. -/
def restartFold (s : State) : State :=
  match s.fold.job with
  | none => s
  | some j => { s with fold := { s.fold with job := some { j with next := 0 } } }

end Sys2Proof.Machine
end

