-- ==== Sys2Proof/Machine/Window.lean ====
section
/-! DEFINITION. Window Engine (chapter 9): the pointer, the holder, and the four window requests. -/

namespace Sys2Proof.Machine

/-- R155: one step of the pointer. -/
def stepPointer (w : Window) : Nat :=
  match w.direction with
  | .forward => if w.pointer = w.stop then w.start else w.pointer + 1
  | .reverse => if w.pointer = w.start then w.stop else w.pointer - 1

/-- R156: k steps: each returns the holder, loads it from the pointer, a 24-bit sample sign-extended, and steps. -/
def readSteps (s : State) (l : LayerId) : Nat → Window → List Word × Window
  | 0, w => ([], w)
  | k + 1, w =>
    let r := readSteps s l k { w with holder := narrowWord (layerWord s l w.pointer), pointer := stepPointer w }
    (w.holder :: r.1, r.2)

/-- R157: the words stored one after another, each as a sign-extended sample, the pointer stepping. -/
def writeSteps (l : LayerId) : List Word → Window → State → Window × State
  | [], w, s => (w, s)
  | x :: rest, w, s =>
    writeSteps l rest { w with pointer := stepPointer w } (storeLayerWord l w.pointer (narrowWord x) s)

/-- A four-byte field of a window reply. -/
def pointerBytes (w : Window) : List Byte := leBytes 4 w.pointer

/-- R154. -/
def doOpenWindow (st : Station) (layer : Byte) (ws we : Word) (direction : Byte) (s : State) : Reply × State :=
  let l := layerOf layer
  let x := s.layer l
  match x.state with
  | .free | .recording | .building => (plain .state, s)
  | .preparing | .live | .redo =>
    if x.state = .preparing ∧ loadFilling s l = true then (plain .retry, s)
    else if x.length ≤ we.toNat ∨ we.toNat < ws.toNat then (plain .param, s)
    else
      (okWith (leBytes 4 x.length),
        s.setWindow st { s.window st with
          state := .opened, layer := some l, start := ws.toNat, stop := we.toNat,
          direction := (Direction.ofByte direction).getD .forward, pointer := ws.toNat })

/-- R156. -/
def doReadData (st : Station) (k : Byte) (s : State) : Reply × State :=
  let w := s.window st
  match w.state, w.layer with
  | .opened, some l =>
    let r := readSteps s l k.toNat w
    (okWith (r.1.flatMap (fun x => leBytes 4 x.toNat) ++ pointerBytes r.2), s.setWindow st r.2)
  | .lost, _ => (plain .windowLost, s)
  | _, _ => (plain .noWindow, s)

/-- The layer's track carries NO_EDIT (R30). -/
def layerNoEdit (s : State) (l : LayerId) : Bool :=
  match (s.layer l).track with
  | none => false
  | some t => (s.track t).guards.noEdit

/-- R157. -/
def doWriteData (st : Station) (words : List Word) (s : State) : Reply × State :=
  let w := s.window st
  match w.state, w.layer with
  | .opened, some l =>
    if layerNoEdit s l then (plain .guarded, s)
    else if (s.layer l).folding then (plain .retry, s)
    else
      let r := writeSteps l words w s
      (okWith (pointerBytes r.1), r.2.setWindow st r.1)
  | .lost, _ => (plain .windowLost, s)
  | _, _ => (plain .noWindow, s)

/-- R159: the holder keeps its word. -/
def doCloseWindow (st : Station) (s : State) : Reply × State :=
  (plain .ok, s.setWindow st { Window.reset with holder := (s.window st).holder })

end Sys2Proof.Machine
end

