-- ==== Sys2Proof/Machine/LayerRequests.lean ====
section
/-! DEFINITION. The Layer Table's requests, as executed: SET LAYER, ROTATE, CREATE LAYER, READ LAYER. -/

namespace Sys2Proof.Machine

/-- R67, R68, R150: the fold restarts if a source's gain or offset changes. -/
def restartIfSource (changed folding : Bool) (s : State) : State := if changed && folding then restartFold s else s

/-- R67. -/
def doSetLayer (layer : Byte) (gain : BitVec 24) (pinned : Byte) (s : State) : Reply × State :=
  let l := layerOf layer
  let x := s.layer l
  let g := clamp 0 Config.gainMax gain.toNat
  match x.state with
  | .free | .building => (plain .state, s)
  | .recording | .preparing | .live | .redo =>
    if layerNoEdit s l then (plain .guarded, s)
    else
      let s := s.modLayer l fun x => { x with gain := g, pinned := pinned == 1#8 }
      (plain .ok, restartIfSource (decide (g ≠ x.gain)) x.folding s)

/-- R68: (o + d) mod length. -/
def rotated (x : Layer) (d : Word) : Nat := (((x.offset : Int) + d.toInt) % (x.length : Int)).toNat

/-- R68. -/
def doRotate (layer : Byte) (d : Word) (s : State) : Reply × State :=
  let l := layerOf layer
  let x := s.layer l
  let o := rotated x d
  match x.state with
  | .free | .recording | .building => (plain .state, s)
  | .preparing | .live | .redo =>
    if layerNoEdit s l then (plain .guarded, s)
    else
      let s := s.modLayer l fun x => { x with offset := o }
      (plain .ok, restartIfSource (decide (o ≠ x.offset)) x.folding s)

/-- R69: the length of a created layer. -/
def createLength (s : State) (t : TrackId) (bars : Byte) : Nat :=
  if (s.track t).state = .empty then bars.toNat * barFrames s else (s.track t).tlf

/-- R69, the tests in order; the slot if all pass. -/
def createTest (s : State) (t : TrackId) (bars : Byte) : Except Code LayerId :=
  let x := s.track t
  if s.grid.tempo.isNone then .error .gridUnset
  else if x.guards.noEdit then .error .guarded
  else if x.state = .firstRec ∨ x.prepared.isSome = true then .error .state
  else if x.state = .empty ∧ bars = 0#8 then .error .param
  else
    match freeSlot s with
    | none => .error .noLayer
    | some l =>
      if s.pool.free.length < blocksFor (createLength s t bars) then .error .noMemory else .ok l

/-- The CREATE LAYER row of R51. -/
def createRecord (t : TrackId) (n : Nat) : Layer :=
  { Layer.free with state := .preparing, track := some t, origin := some .imported, length := n, spanLen := n }

/-- R69. -/
def doCreateLayer (track bars : Byte) (s : State) : Reply × State :=
  let t := trackOf track
  match createTest s t bars with
  | .error c => (plain c, s)
  | .ok l =>
    let n := createLength s t bars
    let s := s.setLayer l (createRecord t n)
    let s := (allocate l (blocksFor n) s).getD s
    (okWith [BitVec.ofNat 8 l.val], s.modTrack t fun x => { x with prepared := some l })

/-! ### READ LAYER (R71) -/

/-- Place code and place index (§11.6; the index base is a free value, log 26). -/
def layerPlace (s : State) (l : LayerId) : Byte × Byte :=
  let indexed (code : Byte) (i : Nat) : Byte × Byte := (code, Config.placeBase + BitVec.ofNat 8 i)
  let plainPlace (code : Byte) : Byte × Byte := (code, Config.noPlaceIndex code)
  match (s.layer l).track with
  | none => plainPlace 0#8
  | some t =>
    let x := s.track t
    if l ∈ x.stack then indexed 1#8 (x.stack.idxOf l)
    else if l ∈ x.redo then indexed 2#8 (x.redo.idxOf l)
    else if x.take = some l then plainPlace 3#8
    else if x.prepared = some l then plainPlace 4#8
    else if (s.fold.job.map FoldJob.result) = some l then plainPlace 5#8
    else plainPlace 0#8

def originByte : Option Origin → Byte
  | none => Config.originNone
  | some o => o.byte

/-- Fade running and fade target; zeros where no fade runs (R191). -/
def fadeBytes : Option Fade → List Byte
  | none => leBytes 4 0
  | some f => leBytes 1 1 ++ leBytes 3 f.target

/-- R71. -/
def doReadLayer (layer : Byte) (s : State) : Reply × State :=
  let l := layerOf layer
  let x := s.layer l
  let place := layerPlace s l
  (okWith ([x.state.byte, orNone x.track, place.1, place.2, originByte x.origin] ++ leBytes 4 x.length ++
    leBytes 4 x.offset ++ leBytes 4 x.spanStart ++ leBytes 4 x.spanLen ++ leBytes 3 x.gain ++
    [boolByte x.pinned, boolByte x.shed, boolByte x.folding] ++ leBytes 3 x.env ++ fadeBytes x.fade ++
    leBytes 2 x.extents.length ++ leBytes 2 (x.extents.filter Extent.blank).length), s)

end Sys2Proof.Machine
end

