-- ==== Sys2Proof/Machine/Takes.lean ====
section
/-! DEFINITION. Takes and recording heads (chapter 4) with the tempo capture and the fit of chapter 1: openings, head writes,
closes, discards, budget closes and the escalation of R136. -/

namespace Sys2Proof.Machine

/-! ### Opening (R75, R78, R79, R85) -/

/-- R72, R75: the head becomes HELD and NEWER, the other OLDER. -/
def takeHead (h : HeadId) (held : Held) (s : State) : State :=
  setNewer (otherHead h) false (s.setHead h (some { held with newer := true }))

/-- R78: the δ most recent ring words, oldest first. -/
def prerollWords (s : State) (src : SourceId) (d : Nat) : List Word := ((s.rings.get src).take d).reverse

/-- R80: the look-ahead check at the write position p of a first take asks for a block. -/
def lookWanted (s : State) (held : Held) : Bool :=
  let k := (s.track held.track).pos / Config.blockWords
  held.mode != .overdub && (s.layer held.layer).extents.length == k + 1 &&
    decide ((k + 1) * Config.blockWords < held.limit) && !held.short

/-- R80: the block that the check asks for, or the short mark. -/
def lookAhead (h : HeadId) (s : State) : State :=
  match s.head h with
  | none => s
  | some held =>
    if lookWanted s held then (allocate held.layer 1 s).getD (s.setHead h (some { held with short := true }))
    else s

/-- The head's look-ahead is left for later at this boundary (R97, log 7). -/
def markLook (h : HeadId) (s : State) : State :=
  match s.head h with
  | none => s
  | some held => if lookWanted s held then s.setHead h (some { held with lookDue := true }) else s

/-- The look-ahead that was left for later, if there is one. Where the take closes or is discarded at the boundary before it is
taken, it lapses with the head and the pool is not asked (the model's choice, log 48). -/
def takeLook (h : HeadId) (s : State) : State :=
  match s.head h with
  | none => s
  | some held => if held.lookDue then lookAhead h (s.setHead h (some { held with lookDue := false })) else s

/-- Both heads' look-aheads that were left for later, H0 first (the model's choice of R97's two orders, log 7; after
SHORT_TAKE_CLOSE of H1 only H0's is left). -/
def takeLooks (s : State) : State := takeLook 1 (takeLook 0 s)

/-- The take rows of R51: `length` and span `(sp, sl)` at the opening. -/
def takeRecord (t : TrackId) (src : SourceId) (length sp sl : Nat) : Layer :=
  { Layer.free with state := .recording, track := some t, origin := some (.source src), length := length,
                    spanStart := sp, spanLen := sl, env := Config.unity }

/-- R79: mode and limit of a first take. -/
def firstMode (s : State) : HeadMode := if s.grid.tempo.isSome then .first else .capture
def firstLimit (s : State) : Nat := if s.grid.tempo.isSome then 32 * barFrames s else Config.captureLimit

/-- R79: a first take opens in head h and slot l; the opening blocks have been tested. -/
def openFirst (t : TrackId) (src : SourceId) (takeStation : Station) (d : Nat) (h : HeadId) (l : LayerId)
    (s : State) : State :=
  let words := prerollWords s src d
  let s := takeHead h ⟨t, l, src, firstMode s, firstLimit s, false, true, false⟩ s
  let s := s.setLayer l (takeRecord t src d 0 d)
  let s := s.modTrack t fun x =>
    { x with state := .firstRec, pos := d, take := some l, takeStation := some takeStation }
  let s := (allocate l 2 s).getD s
  lookAhead h (storeLayerWords l (2 * Config.blockWords) 0 words s)

/-- R85, R87: an overdub take opens in head h and slot l, with span start sp and `words` as its pre-roll. -/
def openOverdub (t : TrackId) (src : SourceId) (takeStation : Station) (sp : Nat) (words : List Word) (h : HeadId)
    (l : LayerId) (s : State) : State :=
  let tlf := (s.track t).tlf
  let s := takeHead h ⟨t, l, src, .overdub, 0, false, true, false⟩ s
  let s := s.setLayer l (takeRecord t src tlf sp words.length)
  let s := s.modTrack t fun x => { x with state := .overdub, take := some l, takeStation := some takeStation }
  let s := (allocate l (blocksFor tlf) s).getD s
  storeLayerWords l tlf sp words s

/-! ### Writing (R80, R85) -/

/-- HEAD_WRITE: the frame that has just ended goes into the take. An overdub's span grows; a first take's length follows
its track position (`growFirst`). -/
def headWrite (inputs : Vector Sample 8) (s : State) (h : HeadId) : State :=
  match s.head h with
  | none => s
  | some held =>
    let w := sampleWord (inputs.get held.source)
    match held.mode with
    | .first | .capture => storeLayerWord held.layer (s.track held.track).pos w s
    | .overdub =>
      let x := s.layer held.layer
      let s := storeLayerWord held.layer ((x.spanStart + x.spanLen) % x.length) w s
      s.modLayer held.layer fun x => { x with spanLen := x.spanLen + 1 }

/-- R53, R79, R80: after the position's advance a first take's length and span length equal it, and the look-ahead is
checked, or left for later in the boundary (R97). -/
def growFirst (late : Bool) (s : State) (h : HeadId) : State :=
  match s.head h with
  | none => s
  | some held =>
    match held.mode with
    | .overdub => s
    | .first | .capture =>
      let p := (s.track held.track).pos
      let s := s.modLayer held.layer fun x => { x with length := p, spanLen := p }
      if late then markLook h s else lookAhead h s

/-! ### Discards (R90) -/

/-- A first take is discarded: purged with its head released, the track EMPTY. -/
def discardFirst (t : TrackId) (l : LayerId) (s : State) : State := emptyTrack t (purge l s)

/-- An overdub take is discarded: purged with its head released, the track PLAYING. -/
def discardOverdub (t : TrackId) (l : LayerId) (s : State) : State := setTrackState t .playing (purge l s)

/-- R14: a capture or fit fails. -/
def failCapture (t : TrackId) (l : LayerId) (s : State) : State :=
  raiseAll .captureFailed (markEmptied t (discardFirst t l s))

/-! ### Closes of a first take (R12 to R15, R82 to R84) -/

/-- R12, R84: fit an extent list to n frames: surplus released, or every missing block supplied, or none. -/
def fitExtents (l : LayerId) (n : Nat) (s : State) : Option State :=
  let missing := blocksFor n - (s.layer l).extents.length
  if missing = 0 then some (trimExtents l (blocksFor n) s) else allocate l missing s

/-- R13, R82: the closed layer's geometry, the push, the loop and the head. -/
def settleFirst (t : TrackId) (l : LayerId) (n span bars pos : Nat) (s : State) : State :=
  let s := s.modLayer l fun x => { x with length := n, offset := 0, spanStart := 0, spanLen := span }
  let s := releaseHeadOf l s
  let s := s.modTrack t fun x => { x with state := .playing, tlf := n, bars := bars, pos := pos }
  pushTake t l s

/-- R82: a FIRST-mode take closes on its first n frames. -/
def closeFirst (t : TrackId) (l : LayerId) (n : Nat) (s : State) : State :=
  let w := (s.track t).pos
  settleFirst t l n n (n / barFrames s) (w % n) (trimExtents l (blocksFor n) s)

/-- R13: a capture that has its FPB completes. -/
def completeCapture (t : TrackId) (l : LayerId) (fpb b cb w : Nat) (s : State) : State :=
  let n := cb * b * fpb
  let s := settleFirst t l n (min w n) cb (w % n) s
  enterGrid (Tempo.atIndex fpb b cb (w % n)) (raiseAll .captured s)

/-- R9 to R14: the tempo capture of a take of w frames. -/
def captureTake (t : TrackId) (l : LayerId) (w : Nat) (s : State) : State :=
  let b := s.grid.capBpb
  let cb := captureCb s.grid.capb w s.grid.pref b
  let fpb := captureFpb w (cb * b)
  if fpbInRange fpb then
    match fitExtents l (cb * b * fpb) s with
    | some s => completeCapture t l fpb b cb w s
    | none =>
      let low := w / (cb * b)
      if low < 12000 then failCapture t l s
      else completeCapture t l low b cb w (trimExtents l (blocksFor (cb * b * low)) s)
  else failCapture t l s

/-- R15 step 4: a fit of n bars that succeeds. -/
def completeFit (t : TrackId) (l : LayerId) (n w len : Nat) (s : State) : State :=
  let total := n * barFrames s
  raiseAll .captured (settleFirst t l total (min len total) n (w % total) s)

/-- R15, R84: the fit to the grid in force of a take of w frames with a trim of d. -/
def fitTake (t : TrackId) (l : LayerId) (w d : Nat) (s : State) : State :=
  let barF := barFrames s
  let len := w - d
  let n := fitBars len barF
  if n = 0 then failCapture t l s
  else
    match fitExtents l (n * barF) s with
    | some s => completeFit t l n w len s
    | none =>
      let low := len / barF
      if low = 0 then failCapture t l s
      else completeFit t l low w len (trimExtents l (blocksFor (low * barF)) s)

/-- R9, R15: a CAPTURE-mode take closes, with the trim d of a STOP. -/
def closeCapture (t : TrackId) (l : LayerId) (d : Nat) (s : State) : State :=
  let w := (s.track t).pos
  if s.grid.tempo.isSome then fitTake t l w d s else captureTake t l w s

/-- R83, R89: a FIRST-mode take closed by force on its whole bars; true when the take became a layer. -/
def closeWholeBars (t : TrackId) (l : LayerId) (s : State) : Bool × State :=
  let n := (s.track t).pos / barFrames s
  if 1 ≤ n then (true, closeFirst t l (n * barFrames s) s)
  else (false, markEmptied t (discardFirst t l s))

/-! ### STOP, UNDO (R64, R82, R86) -/

/-- R86: a STOP on OVERDUB with backdate d. -/
def stopOverdub (t : TrackId) (l : LayerId) (d : Nat) (s : State) : State :=
  let sl := (s.layer l).spanLen
  if sl ≤ d then discardOverdub t l s
  else
    let s := s.modLayer l fun x => { x with spanLen := sl - d }
    pushTake t l (setTrackState t .playing (releaseHeadOf l s))

/-- A STOP of the take held by a head (R82, R86, R9, R15). -/
def stopTake (held : Held) (d : Nat) (s : State) : State :=
  match held.mode with
  | .first => closeFirst held.track held.layer ((s.track held.track).pos - d) s
  | .capture => closeCapture held.track held.layer d s
  | .overdub => stopOverdub held.track held.layer d s

/-- R64: UNDO takes back the take of a track. -/
def undoTake (t : TrackId) (s : State) : State :=
  match (s.track t).take with
  | none => s
  | some l => if (s.track t).state = .firstRec then discardFirst t l s else discardOverdub t l s

/-- Tell the take station of a track's take, if there is one (R42). -/
def tellTake (t : TrackId) (st : Option Station) (a : Action) (r : DropReason) (s : State) : State :=
  match st with
  | none => s
  | some st => tellDrop st t a r s

/-! ### Forced closes (R81, R83) -/

/-- R81: the take has reached its limit. -/
def limitReached (s : State) (h : HeadId) : Bool :=
  match s.head h with
  | none => false
  | some held => held.mode != .overdub && (s.track held.track).pos == held.limit

def limitClose (h : HeadId) (s : State) : State :=
  match s.head h with
  | none => s
  | some held => if limitReached s h then stopTake held 0 s else s

/-- R83: the write position of a short take has reached the end of its extent list. -/
def shortReached (s : State) (h : HeadId) : Bool :=
  match s.head h with
  | none => false
  | some held =>
    held.mode != .overdub && held.short &&
      (s.track held.track).pos == (s.layer held.layer).extents.length * Config.blockWords

def shortClose (h : HeadId) (s : State) : State :=
  match s.head h with
  | none => s
  | some held =>
    if shortReached s h then
      match held.mode with
      | .capture => closeCapture held.track held.layer 0 s
      | .first | .overdub =>
        let st := (s.track held.track).takeStation
        let r := closeWholeBars held.track held.layer s
        if r.1 then r.2 else tellTake held.track st .record .noMemory r.2
    else s

/-! ### Passes (R87) -/

/-- The pass of an overdub take is complete. -/
def passReached (s : State) (h : HeadId) : Bool :=
  match s.head h with
  | none => false
  | some held => held.mode == .overdub && (s.layer held.layer).spanLen == (s.layer held.layer).length

/-- R87: the needs of a next pass, in order; the state after admission, and the slot. -/
def passNeeds (t : TrackId) (s : State) : Except DropReason (LayerId × State) :=
  if (s.track t).stack.length < Config.stackMax then
    match freeSlot s with
    | none => .error .noLayer
    | some l =>
      if blocksFor (s.track t).tlf ≤ s.pool.free.length then
        match admitOne s with
        | none => .error .budget
        | some s => .ok (l, s)
      else .error .noMemory
  else .error .stackFull

/-- R87: the pass ends: the take closes and the next one opens, or the overdub ends. `foldFirst`: a start attempt that
the close asks for comes before the needs are tested (R152). -/
def endPass (h : HeadId) (foldFirst : Bool) (s : State) : State :=
  match s.head h with
  | none => s
  | some held =>
    if passReached s h then
      let t := held.track
      let sp := (s.layer held.layer).spanStart
      let st := (s.track t).takeStation
      let s := pushTake t held.layer s
      let s := if foldFirst then runAttempt s else s
      match passNeeds t s with
      | .ok (l, s) => openOverdub t held.source (st.getD 0) sp [] h l s
      | .error r => tellTake t st .overdub r (setTrackState t .playing (releaseHead h s))
    else s

/-! ### Budget close and escalation (R89, R136) -/

/-- R89: where the close leaves a LIVE layer, it is shed at once. -/
def shedIfLive (l : LayerId) (s : State) : State := if (s.layer l).state = .live then shedLayer l s else s

/-- The action that opened a take (R42). -/
def HeadMode.action : HeadMode → Action
  | .first | .capture => .record
  | .overdub => .overdub

/-- R89. -/
def budgetClose (h : HeadId) (s : State) : State :=
  match s.head h with
  | none => s
  | some held =>
    let t := held.track
    let l := held.layer
    let st := (s.track t).takeStation
    let s := match held.mode with
      | .overdub => stopOverdub t l 0 s
      | .first => (closeWholeBars t l s).2
      | .capture => closeCapture t l 0 s
    tellTake t st held.mode.action .budget (shedIfLive l s)

/-- The newest-opened held head. -/
def newestHead (s : State) : Option HeadId :=
  headIds.find? fun h => match s.head h with
    | some held => held.newer
    | none => false

/-- R136 step 4, once: a budget close of the newest recording, if the count is over the budget. -/
def closeNewest (s : State) : State :=
  if s.budget.limit < streamCount s then
    match newestHead s with
    | some h => budgetClose h s
    | none => s
  else s

/-- R136, each step only while the count exceeds the budget. -/
def escalate (s : State) : State :=
  let s := shedToBudget s
  let s := if s.budget.limit < streamCount s then pauseFold s else s
  closeNewest (closeNewest s)

end Sys2Proof.Machine
end

