-- ==== Sys2Proof/Machine/Queue.lean ====
section
/-! DEFINITION. Track Table and Action Queue (chapter 2): the tests of R26, the list, firing, the actions' effects, the
Head Arbiter's service of take starts, and the meanings of ACT and CANCEL on an accepted request. -/

namespace Sys2Proof.Machine

/-! ### Validity (R26, R27, R30, R38) -/

/-- R27, the table: the action is valid in the track's state. -/
def actionValid (s : State) (t : TrackId) (a : Action) : Bool :=
  let x := s.track t
  let prepared : Bool := match x.prepared with
    | none => false
    | some l => !loadFilling s l
  match x.state, a with
  | .empty, .record => x.prepared.isNone
  | .empty, .commit => prepared
  | .firstRec, .stop | .firstRec, .undo | .firstRec, .clear => true
  | .playing, .overdub | .playing, .mute | .playing, .clear => true
  | .playing, .undo | .muted, .undo => decide (2 ≤ x.stack.length)
  | .playing, .redo | .muted, .redo => !x.redo.isEmpty
  | .playing, .commit | .muted, .commit => prepared
  | .overdub, .stop | .overdub, .undo | .overdub, .clear => true
  | .muted, .unmute | .muted, .clear => true
  | _, _ => false

/-- R27: the action needs a stack place. -/
def needsPlace (x : Track) : Action → Bool
  | .overdub => true
  | .commit => x.state == .playing || x.state == .muted
  | _ => false

def isTakeStart : Action → Bool
  | .record | .overdub => true
  | _ => false

/-- The tests of R26 steps 1 to 4, in order; `chain` is the chain flag of a STOP (clear when an entry fires, R38). -/
def actionTest (s : State) (t : TrackId) (a : Action) (chain : Bool) : Option Code :=
  let x := s.track t
  if x.guards.blocks a ∨ (chain = true ∧ x.guards.noRecord = true) then some .guarded
  else if actionValid s t a = false then some .state
  else if needsPlace x a ∧ Config.stackMax ≤ x.stack.length then some .stackFull
  else if s.budget.band = .reserve ∧ (isTakeStart a ∨ chain = true) then some .lowSupply
  else none

/-- R38: the drop reason of a failed test. -/
def dropReasonOf (e : Entry) : Code → DropReason
  | .guarded => .guarded
  | .stackFull => .stackFull
  | .lowSupply => .lowSupply
  | _ => if e.emptied then .cleared else .state

/-! ### The list (R31, R33 to R37) -/

/-- R31: after every entry whose count is less than or equal to its own. -/
def insertEntry (e : Entry) : List Entry → List Entry
  | [] => [e]
  | x :: rest => if x.remaining ≤ e.remaining then x :: insertEntry e rest else e :: x :: rest

def joinQueue (e : Entry) (s : State) : State := { s with queue := insertEntry e s.queue }

/-- The track's waiting entry. -/
def waiting (s : State) (t : TrackId) : Option Entry := s.queue.find? fun e => e.track == t

def leaveQueue (t : TrackId) (s : State) : State := { s with queue := s.queue.filter fun e => e.track != t }

/-- R34: a new entry, with R and δ from the Grid Unit. -/
def newEntry (s : State) (st : Station) (t : TrackId) (a : Action) (q : Quantize) (src : Option SourceId)
    (chain : Bool) : Entry :=
  let r := waitDistance s t a q
  ⟨t, a, q, st, src, chain, r.1, r.2, 0, false⟩

/-- R26, R33 to R36: an ACT whose fields have been checked. -/
def actRequest (st : Station) (t : TrackId) (a : Action) (q : Quantize) (src : Option SourceId) (chain : Bool)
    (s : State) : Code × State :=
  match actionTest s t a chain with
  | some c => (c, s)
  | none =>
    let e := newEntry s st t a q src chain
    match waiting s t with
    | none => (.ok, joinQueue e s)
    | some old =>
      if old.action = a then (.merged, s)
      else
        let s := joinQueue e (leaveQueue t s)
        (.ok, if old.station = st then s else tellDrop old.station t old.action .replaced s)

/-- R37: a CANCEL. -/
def cancelRequest (st : Station) (t : TrackId) (s : State) : Code × State :=
  match waiting s t with
  | none => (.state, s)
  | some old =>
    let s := leaveQueue t s
    (.ok, if old.station = st then s else tellDrop old.station t old.action .cancelled s)

/-! ### What the actions do (R45 to R49, R63, R65) -/

/-- R63 step 1: the overflow of the redo list. -/
def purgeOverflow (t : TrackId) (s : State) : State :=
  if Config.redoMax ≤ (s.track t).redo.length then
    match (s.track t).redo.getLast? with
    | some l => purge l s
    | none => s
  else s

/-- R149: an UNDO that moved a source abandons the fold. -/
def abandonIfFolding (l : LayerId) (s : State) : State := if (s.layer l).folding then abandonFold s else s

/-- R63: UNDO of the top layer. -/
def undoLayer (t : TrackId) (s : State) : State :=
  let s := purgeOverflow t s
  match (s.track t).stack.getLast? with
  | none => s
  | some l =>
    let s := s.modTrack t fun x => { x with stack := x.stack.dropLast, redo := l :: x.redo }
    let s := s.modLayer l fun x => { x with state := .redo }
    fadeOut l (abandonIfFolding l (unshedLayer l s))

/-- R45: UNDO. -/
def undoAction (t : TrackId) (s : State) : State :=
  match (s.track t).state with
  | .firstRec | .overdub => undoTake t s
  | .playing | .muted => undoLayer t s
  | .empty => s

/-- R65: REDO, after admission. -/
def redoLayer (t : TrackId) (s : State) : State :=
  match (s.track t).redo with
  | [] => s
  | l :: rest =>
    let s := s.modTrack t fun x => { x with stack := x.stack ++ [l], redo := rest }
    let s := s.modLayer l fun x => { x with state := .live }
    startLayerFade l Config.unity (leaveReserve l s)

/-- R61: the steps of a commit. -/
def commitLayer (t : TrackId) (l : LayerId) (s : State) : State :=
  let s := purgeRedo t s
  let s := s.modTrack t fun x => { x with prepared := none, stack := x.stack ++ [l] }
  let s := s.modLayer l fun x => { x with state := .live }
  let s := startLayerFade l Config.unity (setLayerEnv l 0 s)
  testFoldWanted t s

/-- R49: on an EMPTY track the layer sets the loop. -/
def adoptLoop (t : TrackId) (l : LayerId) (st : TrackState) (env : Nat) (s : State) : State :=
  let n := (s.layer l).length
  let bars := n / barFrames s
  s.modTrack t fun x => { x with state := st, tlf := n, bars := bars, pos := 0, env := env, fade := none }

/-- R49: COMMIT, after admission. -/
def commitAction (t : TrackId) (s : State) : State :=
  match (s.track t).prepared with
  | none => s
  | some l =>
    let s := if (s.track t).state = .empty then adoptLoop t l .playing Config.unity s else s
    commitLayer t l s

/-- R46. -/
def muteAction (t : TrackId) (s : State) : State := startTrackFade t 0 (setTrackState t .muted s)

/-- R47, R134. -/
def unmuteAction (t : TrackId) (s : State) : State :=
  shedToBudget (startTrackFade t Config.unity (setTrackState t .playing s))

/-- R48 step 2: the fold on this track is abandoned. -/
def abandonOn (t : TrackId) (s : State) : State :=
  match s.fold.job with
  | none => s
  | some j => if j.track = t then abandonFold s else s

/-- R48. -/
def clearAction (t : TrackId) (s : State) : State :=
  let s := purgeAll (s.track t).take.toList s
  let s := abandonOn t s
  let s := purgeAll (s.track t).stack s
  let s := purgeRedo t s
  let s := purgeAll (s.track t).prepared.toList s
  (emptyTrack t s).modTrack t fun x => { x with env := Config.unity, fade := none, foldWanted := false }

/-! ### Candidates and the Head Arbiter (R74, R75, R40) -/

/-- A take-start candidate. `entry`: the queue entry it came from; none for a chained overdub. -/
structure Candidate where
  track : TrackId
  station : Station
  takeStation : Station
  source : SourceId
  action : Action
  backdate : Nat
  entry : Option Entry
  deriving DecidableEq, Repr

/-- Stations in cyclic order, starting after the pointer. -/
def cyclicFrom (p : Station) : List Station := [p + 1, p + 2, p + 3, p]

/-- R74: priority, then cyclic order, then list order. -/
def arbiterOrder (s : State) (cs : List Candidate) : List Candidate :=
  [3, 2, 1, 0].flatMap fun p =>
    (cyclicFrom s.arbiter.pointer).flatMap fun st =>
      cs.filter fun c => c.station == st && s.arbiter.priorities.get st == p

def freeHead (s : State) : Option HeadId := headIds.find? fun h => (s.head h).isNone

/-- R40: re-arm with the distance of R20, or drop with HEADS. -/
def backOff (e : Entry) (s : State) : State :=
  if 3 ≤ e.retries then tellDrop e.station e.track e.action .heads s
  else joinQueue { e with remaining := rearmDistance s e.track e.quantize, backdate := 0, retries := e.retries + 1 } s

/-- No head is FREE: a queue candidate backs off, a chained overdub is dropped. -/
def noHead (c : Candidate) (s : State) : State :=
  match c.entry with
  | some e => backOff e s
  | none => tellDrop c.station c.track c.action .heads s

/-- The take is a first take (a RECORD) or an overdub. -/
def candidateFirst (c : Candidate) : Bool := c.action == .record

/-- R75: blocks needed at the opening. -/
def candidateBlocks (s : State) (c : Candidate) : Nat :=
  if candidateFirst c then 2 else blocksFor (s.track c.track).tlf

/-- R75, every test passed. -/
def openCandidate (c : Candidate) (h : HeadId) (l : LayerId) (s : State) : State :=
  let x := s.track c.track
  let s := if candidateFirst c then openFirst c.track c.source c.takeStation c.backdate h l s
    else openOverdub c.track c.source c.takeStation (subMod x.pos c.backdate x.tlf)
      (prerollWords s c.source c.backdate) h l s
  if c.entry.isSome then raiseAll .fired s else s

/-- R75: the four tests in order; true when the take opened. -/
def serveCandidate (c : Candidate) (s : State) : Bool × State :=
  match freeHead s with
  | none => (false, noHead c s)
  | some h =>
    match freeSlot s with
    | none => (false, tellDrop c.station c.track c.action .noLayer s)
    | some l =>
      if candidateBlocks s c ≤ s.pool.free.length then
        match admitOne s with
        | none => (false, tellDrop c.station c.track c.action .budget s)
        | some s => (true, openCandidate c h l s)
      else (false, tellDrop c.station c.track c.action .noMemory s)

/-- R74: serve in order; `last` is the station of the last candidate whose take opened. -/
def serveAll : List Candidate → Option Station → State → Option Station × State
  | [], last, s => (last, s)
  | c :: rest, last, s =>
    let r := serveCandidate c s
    serveAll rest (if r.1 then some c.station else last) r.2

/-- R74: the candidates of one boundary, and the pointer afterwards. -/
def arbitrate (cs : List Candidate) (s : State) : State :=
  let r := serveAll (arbiterOrder s cs) none s
  match r.1 with
  | none => r.2
  | some st => { r.2 with arbiter := { r.2.arbiter with pointer := st } }

/-! ### Firing (R32, R38, R41, R43) -/

/-- R41: the tests of a chained overdub. -/
def chainTest (s : State) (t : TrackId) : Option DropReason :=
  let x := s.track t
  if x.guards.noRecord then some .guarded
  else if Config.stackMax ≤ x.stack.length then some .stackFull
  else if s.budget.band = .reserve then some .lowSupply
  else none

/-- R41: the chained overdub of a STOP that has closed (or discarded) its take. -/
def chainOverdub (e : Entry) (held : Held) (takeStation : Option Station) (cs : List Candidate) (s : State) :
    State × List Candidate :=
  if (s.track e.track).state = .playing then
    match chainTest s e.track with
    | some r => (tellDrop e.station e.track .stop r s, cs)
    | none =>
      (s, cs ++ [⟨e.track, e.station, takeStation.getD e.station, held.source, .stop, e.backdate, none⟩])
  else (s, cs)

/-- R32, R82, R86, R88: a STOP is carried out. -/
def fireStop (e : Entry) (cs : List Candidate) (s : State) : State × List Candidate :=
  match (s.track e.track).take.bind (headOf s) with
  | none => (s, cs)
  | some h =>
    match s.head h with
    | none => (s, cs)
    | some held =>
      let st := (s.track e.track).takeStation
      let s := raiseAll .fired (stopTake held e.backdate s)
      if e.chain then chainOverdub e held st cs s else (s, cs)

/-- An action that passes R38 and needs no head. -/
def fireAction (e : Entry) (s : State) : State :=
  let t := e.track
  match e.action with
  | .undo => raiseAll .fired (undoAction t s)
  | .mute => raiseAll .fired (muteAction t s)
  | .unmute => raiseAll .fired (unmuteAction t s)
  | .clear => raiseAll .fired (clearAction t s)
  | .redo =>
    match admitOnto t s with
    | some s => raiseAll .fired (redoLayer t s)
    | none => tellDrop e.station t .redo .budget s
  | .commit =>
    match admitOnto t s with
    | some s => raiseAll .fired (commitAction t s)
    | none => tellDrop e.station t .commit .budget s
  | .record | .overdub | .stop => s

/-- R32, R38: one due entry, which has left the list. -/
def fireEntry (e : Entry) (cs : List Candidate) (s : State) : State × List Candidate :=
  match actionTest s e.track e.action false with
  | some c => (tellDrop e.station e.track e.action (dropReasonOf e c) s, cs)
  | none =>
    match e.action with
    | .record | .overdub =>
      (s, cs ++ [⟨e.track, e.station, e.station, e.source.getD 0, e.action, e.backdate, some e⟩])
    | .stop => fireStop e cs s
    | _ => (fireAction e s, cs)

/-- R32: due entries from the front of the list, one after another. `foldFirst`: a start attempt that an entry asks for is
made at once (R152). -/
def fireDue : Nat → Bool → List Candidate → State → State × List Candidate
  | 0, _, cs, s => (s, cs)
  | fuel + 1, foldFirst, cs, s =>
    match s.queue with
    | [] => (s, cs)
    | e :: rest =>
      if e.remaining = 0 then
        let r := fireEntry e cs { s with queue := rest }
        fireDue fuel foldFirst r.2 (if foldFirst then runAttempt r.1 else r.1)
      else (s, cs)

/-- ENTRY_FIRE: the due entries, then the candidates. Look-aheads that were left for later may come between them (R97: the
entries' releases before the arbiter's tests, another block's claims on either side). Drops are told in the order in which they
come about, those of the Head Arbiter after those of re-validation (R42's "order of the list" read so, log 45). The step is
whole: another block's event, such as the start attempt of a BAR, comes before all of it or after, not between (log 50). -/
def fireEntries (order : FireOrder) (s : State) : State :=
  let r := fireDue s.queue.length order.foldFirst [] s
  arbitrate r.2 (if order.lookFirst then takeLooks r.1 else r.1)

end Sys2Proof.Machine
end

