-- ==== Sys2Proof/Machine/Flash.lean ====
section
/-! DEFINITION. Keep flash and Store Engine, working parts (chapter 10): sectors, images, the option record, and how each
kind of operation advances. -/

namespace Sys2Proof.Machine

/-! ### Flash words and sectors (R163) -/

/-- Byte address of word i counted from the start of a sector. -/
def flashAddress (sector i : Nat) : Nat := Config.sectorBytes * sector + 4 * i

def flashWord (s : State) (sector i : Nat) : Word := readWord flashDefault s.flash (flashAddress sector i)

/-- Program words, by index from the start of a sector. -/
def programWords (sector : Nat) (ws : List (Nat × Word)) (s : State) : State :=
  { s with flash := ws.foldl (fun m w => writeWord flashDefault m (flashAddress sector w.1) w.2) s.flash }

/-- A whole sector erased. -/
def eraseSector (sector : Nat) (s : State) : State :=
  { s with flash := clearBytes s.flash (flashAddress sector 0) Config.sectorBytes }

/-- What the flash is left with by an erase that failed or was cut (R176, log 16). -/
def leaveSector (sector : Nat) (left : FlashLeft) (s : State) : State :=
  let s := eraseSector sector s
  let inside := left.filter fun b => decide (b.1 < Config.sectorBytes)
  { s with flash := inside.foldl (fun m b => writeByte flashDefault m (flashAddress sector 0 + b.1) b.2) s.flash }

def inSector (sector : Nat) (c : Host.Cell) : Bool :=
  decide (flashAddress sector 0 ≤ c.1) && decide (c.1 < flashAddress (sector + 1) 0)

/-- Every word of the sector reads 0xFFFFFFFF: nothing is listed in it. -/
def sectorErased (s : State) (sector : Nat) : Bool := (s.flash.filter (inSector sector)).isEmpty

/-- The sum of the sector's 65,536 bytes: the listed ones, and 255 for each of the others. -/
def sectorTotal (s : State) (sector : Nat) : Nat :=
  let cells := s.flash.filter (inSector sector)
  (cells.map fun c => c.2.toNat).sum + 255 * (Config.sectorBytes - cells.length)

/-! ### The erased-sector map (R166) -/

def insertMark (k : Nat) : List Nat → List Nat
  | [] => [k]
  | x :: rest => if x < k then x :: insertMark k rest else if x = k then x :: rest else k :: x :: rest

def setMark (k : Nat) (s : State) : State :=
  { s with store := { s.store with erased := insertMark k s.store.erased } }

/-- Clear the marks of sectors first to first + n − 1. -/
def clearMarks (first n : Nat) (s : State) : State :=
  { s with store := { s.store with
      erased := s.store.erased.filter fun k => decide (k < first) || decide (first + n ≤ k) } }

/-! ### Images (R163, R191) -/

/-- Sectors of an image of a layer of n frames. -/
def imageSectors (n : Nat) : Nat := ceilDiv (Config.headerWords + n) Config.sectorWords

/-- The image's last sector. -/
def imageLast (first n : Nat) : Nat := first + imageSectors n - 1

/-- The header a SAVE of the layer writes now, with a given sample sum. -/
def imageHeader (s : State) (l : LayerId) (sum : Word) : List Word :=
  let x := s.layer l
  let g := s.grid.tempo
  let w (n : Nat) : Word := BitVec.ofNat 32 n
  [Config.imageMark, w x.length, w (x.length / barFrames s), w ((g.map Tempo.bpb).getD 0),
    w ((g.map Tempo.fpb).getD 0), w x.gain, w x.offset, w x.spanStart, w x.spanLen, w x.pinned.toNat, sum,
    0#32, 0#32, 0#32, 0#32, 0#32]

/-- The sum of sample words first to first + n − 1. -/
def sampleTotal (s : State) (l : LayerId) (n : Nat) : Word :=
  (List.range n).foldl (fun acc i => acc + layerWord s l i) 0#32

/-- R169: the word a SAVE of the layer would write at image word i at this moment. -/
def expectedWord (s : State) (l : LayerId) (i : Nat) : Word :=
  if i = 10 then 0#32 - sampleTotal s l (s.layer l).length
  else if i < Config.headerWords then (imageHeader s l 0#32).getD i 0#32
  else layerWord s l (i - Config.headerWords)

/-- Header fields, as read at a LOAD. -/
structure Header where
  length : Nat
  bars : Nat
  bpb : Nat
  fpb : Nat
  gain : Nat
  offset : Nat
  spanStart : Nat
  spanLen : Nat
  pinned : Nat
  sum : Word
  deriving DecidableEq, Repr

/-- The header at a sector; none when its mark or a spare word is not valid. -/
def readHeader (s : State) (sector : Nat) : Option Header :=
  let w (i : Nat) : Nat := (flashWord s sector i).toNat
  if flashWord s sector 0 = Config.imageMark ∧ ([11, 12, 13, 14, 15].all fun i => w i == 0) = true then
    some ⟨w 1, w 2, w 3, w 4, w 5, w 6, w 7, w 8, w 9, flashWord s sector 10⟩
  else none

/-- The valid ranges of R163. -/
def Header.valid (h : Header) : Bool :=
  decide (1 ≤ h.bars) && decide (h.bars ≤ 32) && decide (1 ≤ h.bpb) && decide (h.bpb ≤ 12) &&
    decide (12000 ≤ h.fpb) && decide (h.fpb ≤ 48000) && decide (h.length = h.bars * h.bpb * h.fpb) &&
    decide (h.gain ≤ Config.gainMax) && decide (h.offset < h.length) && decide (h.spanStart < h.length) &&
    decide (h.spanLen ≤ h.length) && decide (h.pinned ≤ 1)

/-! ### Loading (R170, R171) -/

/-- R170: the grid check. -/
def gridMismatch (s : State) (t : TrackId) (h : Header) : Bool :=
  match s.grid.tempo with
  | none => false
  | some g =>
    decide (h.bpb ≠ g.bpb) || decide (h.fpb ≠ g.fpb) ||
      ((s.track t).state != .empty && decide ((s.track t).tlf ≠ h.length))

/-- R170: the header checks in order; the header and the slot, or the result of the first that fails. -/
def loadCheck (s : State) (first : Nat) (t : TrackId) : Except StoreResult (Header × LayerId) :=
  match readHeader s first with
  | none => .error .badHeader
  | some h =>
    if h.valid = false then .error .badHeader
    else if 1022 < imageLast first h.length then .error .range
    else if gridMismatch s t h then .error .gridMismatch
    else if s.grid.tempo.isNone ∧ 16 < h.bars then .error .range
    else
      match freeSlot s with
      | none => .error .noLayer
      | some l => if s.pool.free.length < blocksFor h.length then .error .noMemory else .ok (h, l)

/-- The LOAD row of R51. -/
def loadRecord (t : TrackId) (h : Header) : Layer :=
  { Layer.free with state := .preparing, track := some t, origin := some .loaded, length := h.length,
                    offset := h.offset, spanStart := h.spanStart, spanLen := h.spanLen, gain := h.gain,
                    pinned := h.pinned == 1 }

/-- R170: a LOAD that passes every check: the grid, the slot, the blocks, the prepared field. -/
def loadBegin (t : TrackId) (h : Header) (l : LayerId) (s : State) : State :=
  let s := if s.grid.tempo.isNone then enterGrid (Tempo.atIndex h.fpb h.bpb h.bars 0) s else s
  let s := s.setLayer l (loadRecord t h)
  let s := (allocate l (blocksFor h.length) s).getD s
  s.modTrack t fun x => { x with prepared := some l }

/-- R171: n words copied from stored index i on, each stored as a sample word (R191, log 35); the sum is that of the words
as they are read. -/
def copyWords (first : Nat) (l : LayerId) : Nat → Nat → Word → State → Word × State
  | 0, _, acc, s => (acc, s)
  | n + 1, i, acc, s =>
    let w := flashWord s first (Config.headerWords + i)
    copyWords first l n (i + 1) (acc + w) (storeLayerWord l i (narrowWord w) s)

/-! ### The option record (R172, R191) -/

def optionFlags (o : OptionCopy) : Nat := o.releaseBarred.toNat + 2 * o.startupFixed.toNat

/-- Words 4 to 7. -/
def optionEntry (o : OptionCopy) (i : Nat) : Word :=
  match o.list[i]? with
  | none => 0#32
  | some e => BitVec.ofNat 32 (e.1.val + 256 * e.2)

def optionBody (o : OptionCopy) : List Word :=
  [Config.optionMark, BitVec.ofNat 32 o.floor, BitVec.ofNat 32 (optionFlags o), BitVec.ofNat 32 o.list.length,
    optionEntry o 0, optionEntry o 1, optionEntry o 2, optionEntry o 3]

def sumWords (ws : List Word) : Word := ws.foldl (· + ·) 0#32

/-- Words 0 to 8 of the record. -/
def optionRecord (o : OptionCopy) : List Word := optionBody o ++ [0#32 - sumWords (optionBody o)]

/-- One entry word as an entry, if its fields lie in range. -/
def entryOfWord (w : Word) : Option (TrackId × Nat) :=
  let n := w.toNat
  if n % 256 ≤ 7 ∧ n / 256 ≤ 1022 then some (Fin.ofNat 8 (n % 256), n / 256) else none

/-- R172: the record, if it is valid. -/
def readOption (s : State) : Option OptionCopy :=
  let w (i : Nat) : Word := flashWord s Config.optionSector i
  let body := (List.range 8).map w
  let count := (w 3).toNat
  let entries := (List.range count).filterMap fun i => entryOfWord (w (4 + i))
  if s.store.optionBroken = false ∧ w 0 = Config.optionMark ∧ w 8 = 0#32 - sumWords body ∧ (w 1).toNat ≤ 1023 ∧
      (w 2).toNat ≤ 3 ∧ count ≤ 4 ∧ entries.length = count ∧ (entries.map Prod.fst).Nodup ∧
      ((List.range' count (4 - count)).all fun i => w (4 + i) == 0#32) = true then
    some ⟨(w 1).toNat, (w 2).getLsbD 0, (w 2).getLsbD 1, entries⟩
  else none

/-- R172, R177 step 2: the option copy and OPTION_INVALID. -/
def loadOption (s : State) : State :=
  match readOption s with
  | some o => { s with store := { s.store with option := o, optionInvalid := false } }
  | none => { s with store := { s.store with option := OptionCopy.invalid, optionInvalid := true } }

/-! ### How operations advance -/

def setProgress (n : Nat) (s : State) : State :=
  { s with store := { s.store with running := s.store.running.map fun op => { op with progress := n } } }

def setJob (j : StoreJob) (s : State) : State :=
  { s with store := { s.store with running := s.store.running.map fun op => { op with job := j } } }

/-- An operation that reaches a stopping point: true when it stops there (R175, R176). -/
def stopsHere (op : StoreOp) : Bool := op.abort || op.restarted

/-- The end at a stopping point. -/
def endStopped (op : StoreOp) (s : State) : State := if op.restarted then endRestarted s else endAborted s

/-- A mark set by an operation: none is set by an ERASE after a RESTART has cleared the map (R164). -/
def markErased (op : StoreOp) (sector : Nat) (s : State) : State := if op.restarted then s else setMark sector s

/-- R166: a sector of an ERASE. -/
def eraseAdvance (op : StoreOp) (first count : Nat) (failed : Bool) (left : FlashLeft) (s : State) : State :=
  let k := first + op.progress
  if failed then
    let s := clearMarks k 1 (leaveSector k left s)
    if op.restarted then endRestarted s else endStoreOp .eraseFail (.value k) s
  else
    let s := setProgress (op.progress + 1) (markErased op k (eraseSector k s))
    if stopsHere op then endStopped op s
    else if count ≤ op.progress + 1 then endStoreOp .done (.value count) s
    else s

/-- R167: a sector of a BLANK CHECK. The sector found not erased does not count in the progress (the model's choice,
log 43). -/
def blankAdvance (op : StoreOp) (first count : Nat) (s : State) : State :=
  let k := first + op.progress
  if sectorErased s k then
    let s := setProgress (op.progress + 1) (setMark k s)
    if count ≤ op.progress + 1 then endStoreUnstated .done s else s
  else endStoreOp .notBlank (.value k) (clearMarks k 1 s)

/-- R167: a sector of a SUM. -/
def sumAdvance (op : StoreOp) (first count : Nat) (acc : BitVec 16) (s : State) : State :=
  let acc := acc - BitVec.ofNat 16 (sectorTotal s (first + op.progress))
  let s := setJob (.sum first count acc) (setProgress (op.progress + 1) s)
  if count ≤ op.progress + 1 then endStoreOp .done (.value acc.toNat) s else s

/-- R174: the copy takes floor 0, flags clear and an empty list, and the rewrite begins. -/
def releaseCopy (s : State) : State := { s with store := { s.store with option := ⟨0, false, false, []⟩ } }

/-- R174: a sector of a RELEASE. -/
def releaseAdvance (op : StoreOp) (floor : Nat) (failed : Bool) (left : FlashLeft) (s : State) : State :=
  let k := op.progress
  if floor ≤ k then s
  else if failed then endStoreOp .eraseFail (.value k) (clearMarks k 1 (leaveSector k left s))
  else
    let s := setProgress (k + 1) (setMark k (eraseSector k s))
    if floor ≤ k + 1 then releaseCopy s else s

/-- What the flash holds after programming: the fault words stand in place of the intended ones (log 16). `base`: image
index of the page's word 0. -/
def withFaults (base : Nat) (faults : PageFaults) (ws : List (Nat × Word)) : List (Nat × Word) :=
  ws.map fun w => match faults.find? fun f => base + f.1 == w.1 with
    | some f => (w.1, f.2)
    | none => w

/-- The indices of words that did not take. -/
def badWords (intended actual : List (Nat × Word)) : List Nat :=
  ((intended.zip actual).filter fun p => p.1.2 != p.2.2).map fun p => p.1.1

/-- Image indices of a page that the image reaches. -/
def pageIndices (page total : Nat) : List Nat :=
  List.range' (Config.pageWords * page) (min (Config.pageWords * (page + 1)) total - Config.pageWords * page)

/-- R168: the words of a page of samples and header, mark and sample sum left erased. -/
def saveWords (s : State) (l : LayerId) (header : List Word) (total page : Nat) : List (Nat × Word) :=
  ((pageIndices page total).filter fun i => i != 0 && i != 10).map fun i =>
    (i, if i < Config.headerWords then header.getD i 0#32 else layerWord s l (i - Config.headerWords))

/-- The sum of the sample words of a page. -/
def saveSum (ws : List (Nat × Word)) : Word :=
  sumWords ((ws.filter fun w => decide (Config.headerWords ≤ w.1)).map Prod.snd)

/-- The words of the page in progress: the layer's as they stand, or those kept when a RESTART purged it (log 20). -/
def saveInHand (s : State) (op : StoreOp) (l : LayerId) (header : List Word) (total page : Nat) (held : List Word) :
    List (Nat × Word) :=
  let now := saveWords s l header total page
  if op.restarted then (now.map Prod.fst).zip held else now

/-- R168: the page in progress of a SAVE is programmed. -/
def saveAdvancePage (op : StoreOp) (l : LayerId) (first : Nat) (header : List Word) (total : Nat) (sum : Word)
    (page : Nat) (bad : List Nat) (held : List Word) (faults : PageFaults) (s : State) : State :=
  let intended := saveInHand s op l header total page held
  let actual := withFaults (Config.pageWords * page) faults intended
  let s := setProgress (min (Config.pageWords * (page + 1)) total) (programWords first actual s)
  let next : SavePhase := if total ≤ Config.pageWords * (page + 1) then .finish else .pages (page + 1)
  let s := setJob (.save l first header total (sum + saveSum intended) next (bad ++ badWords intended actual) []) s
  if stopsHere op then endStopped op s else s

/-- R168: the sample sum word and then the mark word are programmed; a SAVE that stops here leaves the mark erased. -/
def saveFinish (op : StoreOp) (l : LayerId) (first : Nat) (header : List Word) (total : Nat) (sum : Word)
    (bad : List Nat) (faults : PageFaults) (s : State) : State :=
  let sumWord := (10, 0#32 - sum)
  let intended := if stopsHere op then [sumWord] else [sumWord, (0, Config.imageMark)]
  let actual := withFaults 0 faults intended
  let s := programWords first actual s
  let s := setJob (.save l first header total sum (.readBack 0) (bad ++ badWords intended actual) []) s
  if stopsHere op then endStopped op s else s

/-- R168: the read-back of one page; the first differing word ends the SAVE. -/
def saveReadBack (op : StoreOp) (l : LayerId) (first : Nat) (header : List Word) (total : Nat) (sum : Word)
    (page : Nat) (bad : List Nat) (s : State) : State :=
  if stopsHere op then endStopped op s
  else
    match ((pageIndices page total).filter fun i => bad.contains i).head? with
    | some i => endStoreOp .programFail (.value i) s
    | none =>
      if total ≤ Config.pageWords * (page + 1) then
        endStoreOp .done (.value (imageSectors (total - Config.headerWords))) s
      else setJob (.save l first header total sum (.readBack (page + 1)) bad []) s

/-- R169: n image words compared from word i on: how many differ, and the first that does. -/
def compareWords (s : State) (l : LayerId) (first : Nat) : Nat → Nat → Nat × Nat → Nat × Nat
  | 0, _, acc => acc
  | n + 1, i, acc =>
    compareWords s l first n (i + 1)
      (if flashWord s first i = expectedWord s l i then acc else (acc.1 + 1, if acc.1 = 0 then i else acc.2))

/-- R169: `words` more words compared. -/
def verifyAdvance (op : StoreOp) (l : LayerId) (first total differ firstDiff words : Nat) (s : State) : State :=
  let n := min words (total - op.progress)
  let r := compareWords s l first n op.progress (differ, firstDiff)
  let s := setJob (.verify l first total r.1 r.2) (setProgress (op.progress + n) s)
  if total ≤ op.progress + n then
    if r.1 = 0 then endStoreUnstated .done s else endStoreOp .mismatch (.mismatch r.1 r.2) s
  else s

/-- R171: `words` more words copied; at the last the sum is tested, and the layer of a failed LOAD is purged. -/
def loadAdvance (op : StoreOp) (l : LayerId) (first total : Nat) (sum check : Word) (words : Nat) (s : State) : State :=
  let n := min words (total - op.progress)
  let r := copyWords first l n op.progress sum s
  let s := setJob (.load l first total r.1 check) (setProgress (op.progress + n) r.2)
  if total ≤ op.progress + n then
    if r.1 + check = 0#32 then endStoreOp .done (.value l.val) s
    else purge l (endStoreUnstated .checkFail s)
  else s

/-- The sector of the option record is rewritten from the copy; the flash holds `actual`. -/
def rewriteOption (actual : List (Nat × Word)) (broken : Bool) (s : State) : State :=
  let s := programWords Config.optionSector actual (eraseSector Config.optionSector s)
  { s with store := { s.store with optionBroken := broken } }

/-- The result of a rewrite that succeeded (R173, R174). -/
def optionDone (op : StoreOp) (s : State) : State :=
  match op.job with
  | .release floor => endStoreOp .done (.value floor) s
  | _ => endStoreUnstated .done s

/-- The end of a rewrite: a PROTECT or SET STARTUP that a RESTART found takes RESTARTED (R176), where its rewrite failed too
(the model's reading of R176 against R172, log 39). -/
def optionEnd (op : StoreOp) (r : State → State) (s : State) : State :=
  match op.job with
  | .release _ => r s
  | _ => if op.restarted then endRestarted s else r s

/-- R172: a rewrite of the option sector finishes. It does not count in the progress: a RELEASE keeps the number of sectors
below the old floor, the others 0 (the model's choice, log 51). -/
def optionAdvance (op : StoreOp) (failed : Bool) (left : FlashLeft) (faults : PageFaults) (s : State) : State :=
  if failed then
    let s := leaveSector Config.optionSector left s
    let s := { s with store := { s.store with optionBroken := true } }
    optionEnd op (endStoreOp .eraseFail (.value Config.optionSector)) s
  else
    let intended := (List.range 9).zip (optionRecord s.store.option)
    let actual := withFaults 0 faults intended
    match (badWords intended actual).head? with
    | some i => optionEnd op (endStoreOp .programFail (.value i)) (rewriteOption actual true s)
    | none => optionEnd op (optionDone op) (rewriteOption actual false s)

/-- The operation rewrites the option sector now. -/
def rewriting (op : StoreOp) : Bool :=
  match op.job with
  | .protect | .setStartup => true
  | .release floor => decide (floor ≤ op.progress)
  | _ => false

end Sys2Proof.Machine
end

