-- ==== Sys2Proof/Machine/Store.lean ====
section
/-! DEFINITION. Store Engine, requests and completions (chapter 10), and start-up. -/

namespace Sys2Proof.Machine

/-! ### Starting an operation (R164, R165) -/

/-- R165 steps 1 and 2. -/
def storeTest (writes : Bool) (s : State) : Option Code :=
  if s.store.engine = .busy then some .storeBusy
  else if writes = true ∧ s.budget.band = .reserve then some .lowSupply
  else none

/-- R164: the engine is BUSY with the request as its running operation, progress 0. -/
def startOp (st : Station) (j : StoreJob) (s : State) : State :=
  { s with store := { s.store with engine := .busy, running := some ⟨j, st, 0, false, false⟩ } }

/-- The tests of R165 in order, then the operation's start. -/
def storeRequest (writes : Bool) (own : Option Code) (go : State → State) (s : State) : Reply × State :=
  match storeTest writes s with
  | some c => (plain c, s)
  | none =>
    match own with
    | some c => (plain c, s)
    | none => (plain .ok, go s)

/-- R166. -/
def eraseTest (s : State) (first count : Nat) : Option Code :=
  if 1022 < first + count - 1 then some .range
  else if first < s.store.option.floor then some .protected_
  else none

def doErase (st : Station) (first count : BitVec 16) (s : State) : Reply × State :=
  storeRequest true (eraseTest s first.toNat count.toNat) (startOp st (.erase first.toNat count.toNat)) s

/-- R167. -/
def doBlankCheck (st : Station) (first count : BitVec 16) (s : State) : Reply × State :=
  storeRequest false (if 1022 < first.toNat + count.toNat - 1 then some .range else none)
    (startOp st (.blankCheck first.toNat count.toNat)) s

/-- R167. -/
def doSum (st : Station) (first count : BitVec 16) (s : State) : Reply × State :=
  storeRequest false (if 1023 < first.toNat + count.toNat - 1 then some .range else none)
    (startOp st (.sum first.toNat count.toNat 0#16)) s

/-- R168, R169: a layer that SAVE and VERIFY take. -/
def imageLayerOk (s : State) (l : LayerId) : Bool :=
  match (s.layer l).state with
  | .live | .redo => true
  | .preparing => !loadFilling s l
  | .free | .recording | .building => false

/-- R168. -/
def saveTest (s : State) (l : LayerId) (first : Nat) : Option Code :=
  let n := imageSectors (s.layer l).length
  if imageLayerOk s l = false then some .state
  else if 1022 < imageLast first (s.layer l).length then some .range
  else if first < s.store.option.floor then some .protected_
  else if ((List.range' first n).all fun k => s.store.erased.contains k) = false then some .notBlank
  else none

/-- R168: the marks of its sectors clear, the header values are taken. -/
def saveStart (st : Station) (l : LayerId) (first : Nat) (s : State) : State :=
  let n := (s.layer l).length
  startOp st (.save l first (imageHeader s l 0#32) (Config.headerWords + n) 0#32 (.pages 0) [] [])
    (clearMarks first (imageSectors n) s)

def doSave (st : Station) (layer : Byte) (first : BitVec 16) (s : State) : Reply × State :=
  let l := layerOf layer
  storeRequest true (saveTest s l first.toNat) (saveStart st l first.toNat) s

/-- R169. -/
def verifyTest (s : State) (l : LayerId) (first : Nat) : Option Code :=
  if imageLayerOk s l = false then some .state
  else if 1022 < imageLast first (s.layer l).length then some .range
  else none

def doVerify (st : Station) (layer : Byte) (first : BitVec 16) (s : State) : Reply × State :=
  let l := layerOf layer
  storeRequest false (verifyTest s l first.toNat)
    (startOp st (.verify l first.toNat (Config.headerWords + (s.layer l).length) 0 0)) s

/-- R170: the reply's own tests. -/
def loadTest (s : State) (t : TrackId) : Option Code :=
  let x := s.track t
  if x.state = .firstRec ∨ x.prepared.isSome = true then some .state
  else if x.guards.noEdit then some .guarded
  else none

/-- R170: the LOAD starts, or ends at once with STORE_DONE. -/
def loadStart (st : Station) (t : TrackId) (first : Nat) (s : State) : State :=
  match loadCheck s first t with
  | .error r =>
    let (d, s) := drawDetail s
    reportStore .load st r 0 d s
  | .ok (h, l) => startOp st (.load l first h.length 0#32 h.sum) (loadBegin t h l s)

def doLoad (st : Station) (first : BitVec 16) (track : Byte) (s : State) : Reply × State :=
  let t := trackOf track
  storeRequest false (loadTest s t) (loadStart st t first.toNat) s

/-- R173. -/
def protectTest (s : State) (floor : Nat) (flags : Byte) : Option Code :=
  let o := s.store.option
  if floor < o.floor ∨ (o.releaseBarred && !flags.getLsbD 0) = true ∨ (o.startupFixed && !flags.getLsbD 1) = true then
    some .protected_
  else none

/-- R173: the copy takes the new floor and flags at once. -/
def protectStart (st : Station) (floor : Nat) (flags : Byte) (s : State) : State :=
  startOp st .protect { s with store := { s.store with option := { s.store.option with
    floor := floor, releaseBarred := flags.getLsbD 0, startupFixed := flags.getLsbD 1 } } }

def doProtect (st : Station) (floor : BitVec 16) (flags : Byte) (s : State) : Reply × State :=
  storeRequest true (protectTest s floor.toNat flags) (protectStart st floor.toNat flags) s

/-- R173: the copy's list is replaced at once. -/
def startupStart (st : Station) (entries : List (Byte × BitVec 16)) (s : State) : State :=
  startOp st .setStartup { s with store := { s.store with option := { s.store.option with
    list := entries.map fun e => (trackOf e.1, e.2.toNat) } } }

def doSetStartup (st : Station) (entries : List (Byte × BitVec 16)) (s : State) : Reply × State :=
  storeRequest true (if s.store.option.startupFixed then some .barred else none) (startupStart st entries) s

/-- R174: with floor 0 only the record is rewritten. -/
def releaseStart (st : Station) (s : State) : State :=
  let floor := s.store.option.floor
  let s := startOp st (.release floor) s
  if floor = 0 then releaseCopy s else s

def doRelease (st : Station) (s : State) : Reply × State :=
  storeRequest true (if s.store.option.releaseBarred then some .barred else none) (releaseStart st) s

/-- The abort mark is set (R175). -/
def setAbort (s : State) : State :=
  { s with store := { s.store with running := s.store.running.map fun op => { op with abort := true } } }

/-- R175. -/
def doAbortStore (s : State) : Reply × State :=
  match s.store.running with
  | none => (plain .state, s)
  | some op =>
    match op.job with
    | .release _ | .protect | .setStartup => (plain .state, s)
    | .erase .. | .save .. => (plain .ok, setAbort s)
    | .blankCheck .. | .sum .. | .verify .. => (plain .ok, endAborted (setAbort s))
    | .load l .. => (plain .ok, purge l (setAbort s))

/-! ### Completions -/

/-- FLASH_SECTOR_DONE (R166, R167, R174). -/
def sectorDone (failed : Bool) (left : FlashLeft) (s : State) : State :=
  match s.store.running with
  | none => s
  | some op =>
    match op.job with
    | .erase first count => eraseAdvance op first count failed left s
    | .blankCheck first count => blankAdvance op first count s
    | .sum first count acc => sumAdvance op first count acc s
    | .release floor => releaseAdvance op floor failed left s
    | _ => s

/-- FLASH_PAGE_DONE (R168). -/
def pageDone (faults : PageFaults) (s : State) : State :=
  match s.store.running with
  | none => s
  | some op =>
    match op.job with
    | .save l first header total sum (.pages p) bad held =>
      saveAdvancePage op l first header total sum p bad held faults s
    | .save l first header total sum .finish bad _ => saveFinish op l first header total sum bad faults s
    | .save l first header total sum (.readBack p) bad _ => saveReadBack op l first header total sum p bad s
    | _ => s

/-- VERIFY_PROGRESS (R169). -/
def verifyDone (words : Nat) (s : State) : State :=
  match s.store.running with
  | none => s
  | some op =>
    match op.job with
    | .verify l first total differ firstDiff => verifyAdvance op l first total differ firstDiff words s
    | _ => s

/-- LOAD_COPY_DONE (R171). -/
def copyDone (words : Nat) (s : State) : State :=
  match s.store.running with
  | none => s
  | some op =>
    match op.job with
    | .load l first total sum check => loadAdvance op l first total sum check words s
    | _ => s

/-- OPTION_REWRITE_DONE (R172). -/
def rewriteDone (failed : Bool) (left : FlashLeft) (faults : PageFaults) (s : State) : State :=
  match s.store.running with
  | none => s
  | some op => if rewriting op then optionAdvance op failed left faults s else s

/-! ### Resets of the Store Engine (R176) -/

/-- What a cut programming leaves in a page: the bytes that `left` names (log 16). -/
def leavePage (sector page : Nat) (left : FlashLeft) (s : State) : State :=
  let a := flashAddress sector (Config.pageWords * page)
  let inPage := left.filter fun b => decide (b.1 < 4 * Config.pageWords)
  { s with flash := inPage.foldl (fun m b => writeByte flashDefault m (a + b.1) b.2) s.flash }

/-- What an operation cut by a POWER, BROWNOUT or PIN reset leaves in the flash (log 16). -/
def cutOperation (left : FlashLeft) (s : State) : State :=
  match s.store.running with
  | none => s
  | some op =>
    if rewriting op then
      let s := leaveSector Config.optionSector left s
      { s with store := { s.store with optionBroken := true } }
    else
      match op.job with
      | .erase first _ => leaveSector (first + op.progress) left s
      | .release _ => leaveSector op.progress left s
      | .save _ first _ _ _ phase _ _ =>
        match phase with
        | .pages p => leavePage first p left s
        | .finish => leavePage first 0 left s
        | .readBack _ => s
      | _ => s

/-- The words of the page that a SAVE has in hand (log 20). -/
def heldWords (s : State) (j : StoreJob) : StoreJob :=
  match j with
  | .save l first header total sum (.pages p) bad _ =>
    .save l first header total sum (.pages p) bad ((saveWords s l header total p).map Prod.snd)
  | _ => j

/-- R176 at a RESTART, before the layers are cleared: BLANK CHECK, SUM, LOAD and VERIFY stop at once, the others run on
to their stopping point. -/
def restartOperation (s : State) : State :=
  match s.store.running with
  | none => s
  | some op =>
    match op.job with
    | .blankCheck .. | .sum .. | .verify .. | .load .. => endRestarted s
    | _ =>
      { s with store := { s.store with
          running := some { op with restarted := true, job := heldWords s op.job } } }

/-- R164, R176: map, report, phase and engine state at a RESTART. That OPTION_INVALID is clear and the report empty from the
RESTART until start-up fills them, while the option copy stays, is the model's choice (log 31). -/
def restartStore (s : State) : State :=
  let s := restartOperation s
  { s with store := { s.store with
      engine := .starting, erased := [], optionInvalid := false, results := [], phase := .waiting } }

/-! ### Start-up (R177) -/

/-- One startup entry: its result, and the state with the layer loaded or nothing kept. -/
def startupEntry (e : TrackId × Nat) (s : State) : StoreResult × State :=
  match loadCheck s e.2 e.1 with
  | .error r => (r, s)
  | .ok (h, l) =>
    let c := copyWords e.2 l h.length 0 0#32 (loadBegin e.1 h l s)
    if c.1 + h.sum = 0#32 then (.done, c.2) else (.checkFail, purge l c.2)

/-- R177 step 3: the entries in list order. -/
def startupEntries : List (TrackId × Nat) → State → List ((TrackId × Nat) × StoreResult) × State
  | [], s => ([], s)
  | e :: rest, s =>
    let r := startupEntry e s
    let q := startupEntries rest r.2
    ((e, r.1) :: q.1, q.2)

/-- R177 steps 2, 3 and 5 (step 5 at once when no entry ended DONE). -/
def runStartup (s : State) : State :=
  let s := loadOption s
  let r := startupEntries s.store.option.list s
  let s := { r.2 with store := { r.2.store with results := r.1 } }
  if r.1.any fun e => e.2 == .done then { s with store := { s.store with phase := .loaded } }
  else { s with store := { s.store with phase := .over, engine := .idle } }

/-- STARTUP: the engine is STARTING, no operation runs on, no reset holds the part (log 22). -/
def startupWhenReady (s : State) : State :=
  if s.store.engine = .starting ∧ s.store.running.isNone = true ∧ s.store.phase = .waiting ∧
      s.resets.inReset = false then runStartup s
  else s

end Sys2Proof.Machine
end

