-- ==== Sys2Proof/Machine/Supply.lean ====
section
/-! DEFINITION. Budget Unit's events (chapter 7): supply readings, band changes, the boundary after a SET BANDS. -/

namespace Sys2Proof.Machine

/-- R136: the escalation, if the count exceeds the budget. -/
def escalateIfOver (s : State) : State := if s.budget.limit < streamCount s then escalate s else s

/-- R126 step 3: entry to LEAN or RESERVE pauses a running fold. -/
def pauseForBand (s : State) : State :=
  match s.budget.band with
  | .lean | .reserve => pauseFold s
  | .full | .trim => s

/-- R126: a band change, in order. -/
def changeBand (b : Band) (s : State) : State :=
  let s := enforceBand { s with budget := { s.budget with band := b } }
  escalateIfOver (pauseForBand (raiseAll .band s))

/-- R123, R125: a reading of the SENSE pin, limited to 0..2,550, and the move of the band. -/
def takeReading (s : State) : State :=
  let v := min s.budget.sense 2550
  let b := moveBand s.budget.table v s.budget.band
  let s := { s with budget := { s.budget with reading := some v, readingDue := false } }
  if b = s.budget.band then s else changeBand b s

def readingIfDue (s : State) : State := if s.budget.readingDue then takeReading s else s

/-- R124: the boundary that follows a SET BANDS: the new budget and ceiling come into force. -/
def applyBands (s : State) : State :=
  escalateIfOver (enforceBand { s with budget := { s.budget with bandsDue := false } })

def bandsIfDue (s : State) : State := if s.budget.bandsDue then applyBands s else s

end Sys2Proof.Machine
end

