-- ==== Sys2Proof/Machine/Boundary.lean ====
section
/-! DEFINITION. The frame clock: what FRAME_BOUNDARY moves, the events that fall due at a boundary, and when the output pair
of the frame is formed (log 4 to log 7). -/

namespace Sys2Proof.Machine

/-! ### What is due (log 4) -/

/-- The head's look-ahead was left for later. -/
def lookDue (s : State) (h : HeadId) : Bool :=
  match s.head h with
  | none => false
  | some held => held.lookDue

def headDue (s : State) (h : HeadId) : Bool := limitReached s h || shortReached s h || passReached s h || lookDue s h

def entryDue (s : State) : Bool := s.queue.any fun e => e.remaining == 0

def fadeDue (s : State) : Bool :=
  (s.tracks.any fun x => fadeReached x.fade) || s.layers.any fun x => fadeReached x.fade

/-- An event of the boundary in progress has not been taken. -/
def anyDue (s : State) : Bool :=
  s.grid.beatDue || s.mixer.fadesDue || s.fold.advanceDue || s.budget.bandsDue || s.budget.readingDue ||
    s.store.phase == .commitDue || entryDue s || headIds.any (headDue s) || fadeDue s

/-- R106: the pair is formed from the state that every event of the boundary left (log 5). -/
def formFrame (s : State) : State := if s.mixer.frameOpen && !anyDue s then mixFrame s else s

/-- The end of a command: a start attempt that it asked for (log 29), then the pair if nothing is due any more. -/
def finish (s : State) : State := formFrame (runAttempt s)

/-! ### The events, each only when due (log 6) -/

/-- R2, R135, R138, R143: the events of a position with f = 0, and the work of BAR. -/
def beatEvent (foldFirst : Bool) (s : State) : State :=
  match s.grid.tempo with
  | none => s
  | some g =>
    if s.grid.beatDue then
      let s := raisePosition g { s with grid := { s.grid with beatDue := false } }
      if g.startsBar then
        let s := resumeFold s
        if foldFirst then restoreShed (attemptFold s) else attemptFold (restoreShed s)
      else s
    else s

/-- R177 step 4, one track: its loaded layer is committed, MUTED with E_track 0. -/
def commitLoaded (s : State) (t : TrackId) : State :=
  match (s.track t).prepared with
  | none => s
  | some l => commitLayer t l (adoptLoop t l .muted 0 s)

/-- R177 step 4: the grid restarts at position 0. -/
def restartGrid (s : State) : State :=
  match s.grid.tempo with
  | none => s
  | some g => enterGrid { g with bar := 0, beat := 0, f := 0 } s

/-- R177 steps 4 and 5. -/
def startupEvent (s : State) : State :=
  if s.store.phase = .commitDue then
    let s := trackIds.foldl commitLoaded (restartGrid s)
    { s with store := { s.store with phase := .over, engine := .idle } }
  else s

/-- R32. -/
def entryEvent (order : FireOrder) (s : State) : State := if entryDue s then fireEntries order s else s

/-- R83, behind the head's look-ahead if that was left for later; the two never fall due together (R80, R83). -/
def shortEvent (h : HeadId) (s : State) : State := shortClose h (takeLook h s)

/-- R117. -/
def fadeEvent (which : FadeSel) (s : State) : State := endFade which (advanceFadesIfDue s)

/-- R139: the reading and the boundary after a SET BANDS, in either order. -/
def supplyEvents (readingFirst : Bool) (s : State) : State :=
  if readingFirst then bandsIfDue (readingIfDue s) else readingIfDue (bandsIfDue s)

/-- Everything that is still due from the last boundary, in the model's default order (log 4), and the pair. -/
def settle (s : State) : State :=
  let s := runAttempt (startupEvent s)
  let s := runAttempt (beatEvent false s)
  let s := runAttempt (entryEvent ⟨false, false⟩ s)
  let s := runAttempt (limitClose 1 (limitClose 0 s))
  let s := runAttempt (shortEvent 1 (shortEvent 0 s))
  let s := runAttempt (endPass 1 false (endPass 0 false s))
  let s := runAttempt (advanceFoldIfDue s)
  let s := endAllFades (advanceFadesIfDue s)
  let s := runAttempt (supplyEvents false s)
  if s.mixer.frameOpen then mixFrame s else s

/-! ### What a boundary moves (R2, R22, R32, R77, R80, R117, R123, R145) -/

/-- R114: the pair of the frame that ended is shifted out in the frame that begins. -/
def shiftLane (s : State) : State := { s with mixer := { s.mixer with lane := s.mixer.pair, frameOpen := true } }

/-- R77: the newest word first, 4,096 kept. -/
def pushRing (w : Word) (ring : List Word) : List Word := (w :: ring).take Config.ringFrames

def writeRings (inputs : Vector Sample 8) (s : State) : State :=
  { s with rings := Vector.ofFn fun i => pushRing (sampleWord (inputs.get i)) (s.rings.get i) }

/-- R22. -/
def Track.move (x : Track) : Track :=
  match x.state with
  | .empty => x
  | .firstRec => { x with pos := x.pos + 1 }
  | .playing | .overdub | .muted => { x with pos := if x.pos + 1 < x.tlf then x.pos + 1 else 0 }

def moveTracks (s : State) : State := { s with tracks := s.tracks.map Track.move }

/-- R32: every count falls by 1. -/
def countDown (s : State) : State :=
  { s with queue := s.queue.map fun e => { e with remaining := e.remaining - 1 } }

/-- R123: the reading timer. -/
def tickReading (s : State) : State :=
  if s.budget.timer + 1 < Config.readingPeriod then
    { s with budget := { s.budget with timer := s.budget.timer + 1 } }
  else { s with budget := { s.budget with timer := 0, readingDue := true } }

/-- R177 step 4: the boundary after a successful autoload. -/
def tickStartup (s : State) : State :=
  if s.store.phase = .loaded then { s with store := { s.store with phase := .commitDue } } else s

/-- R124: the boundary after a SET BANDS. -/
def tickBands (late : Bool) (s : State) : State :=
  if s.budget.tableNew then
    let s := { s with budget := { s.budget with tableNew := false, bandsDue := true } }
    if late then s else applyBands s
  else s

/-- R117: the fades' advance falls due: a fade that starts from here until it is taken is fresh (R119). -/
def openFades (s : State) : State := { s with mixer := { s.mixer with fadesDue := true } }

/-- R117: the fades, now or after other events of this boundary. -/
def tickFades (late : Bool) (s : State) : State := if late then s else advanceFades s

/-- R145: the fold job; an advance that would complete the job waits for FOLD_COMPLETE. -/
def tickFold (late : Bool) (s : State) : State :=
  if s.fold.job.isSome && !s.budget.foldPaused then
    if late || foldWouldComplete s then { s with fold := { s.fold with advanceDue := true } } else advanceFold s
  else s

/-- R80: both heads' growth and look-aheads. Of two claims on the pool at one boundary either may come first (R97); taken here
H0's comes before H1's and both before every other event of the boundary, which is the model's choice (log 4, log 7): with
`late` they are left due, and then SHORT_TAKE_CLOSE of a head and the operand of ENTRY_FIRE give the other orders. -/
def growTakes (late : Bool) (s : State) : State := headIds.foldl (growFirst late) s

/-- FRAME_BOUNDARY. While a reset holds the part its clocks stand still (R114). The order of the steps taken here, where R97,
R119, R139 and R152 leave it open, is the model's choice; `late` gives the others (log 4, log 7). -/
def frameBoundary (inputs : Vector Sample 8) (late : Late) (s : State) : State :=
  if s.resets.inReset then s
  else
    let s := advanceGrid (shiftLane (settle s))
    let s := headIds.foldl (headWrite inputs) s
    let s := moveTracks (writeRings inputs s)
    let s := growTakes late.look s
    let s := openFades (tickStartup (tickReading (countDown s)))
    let s := tickFold late.fold (tickFades late.fades (tickBands late.bands s))
    finish s

end Sys2Proof.Machine
end

