-- ==== Sys2Proof/Machine/Resets.lean ====
section
/-! DEFINITION. The four reset kinds and the end of a reset (R114, R176, R179, R188, R189, R190). -/

namespace Sys2Proof.Machine

/-! ### POWER, BROWNOUT, PIN -/

/-- R73: 2 × PRI_n_B + PRI_n_A. -/
def strapPriority (p : Strap) : Nat := 2 * p.b.toNat + p.a.toNat

/-- R190: the port at its reset values; the level of CS_N is the outside's. -/
def resetPort (p : Port) : Port := { Port.reset with csLow := p.csLow }

/-- Every block at its POWER, BROWNOUT, PIN value, the straps sampled, a running operation stopped where it stands; loop
DRAM, the flash and what the outside holds stay (R93, R176). `pin`, `detector`: what holds the part from here on. -/
def coldReset (cause : ResetCause) (pin detector : Bool) (straps : Vector Strap 4) (left : FlashLeft) (s : State) :
    State :=
  let s := cutOperation left s
  { State.inPowerReset with
    arbiter := { Arbiter.reset with priorities := straps.map strapPriority }
    dram := s.dram
    flash := s.flash
    store := { Store.reset with optionBroken := s.store.optionBroken }
    budget := { Budget.reset with sense := s.budget.sense }
    ports := s.ports.map resetPort
    resets := ⟨cause, true, pin, detector⟩
    freeCount := s.freeCount
    pending := s.pending }

/-- R179: a port whose CS_N is low when the reset ends. -/
def wakePort (p : Port) : Port :=
  if p.csLow then { p with rx := .receiving [], out := some ⟨Code.empty.byte, []⟩, outHeld := false } else p

/-- R188: the cause, where the detector and RESET_N both held the part. -/
def finalCause (r : ResetUnit) (detectorLast : Bool) : ResetCause :=
  if r.pinHolds && r.detectorHolds then (if detectorLast then .brownout else .pin) else r.cause

/-- R114, R179: the reset ends. -/
def endReset (detectorLast : Bool) (s : State) : State :=
  if s.resets.inReset then
    { s with
      mixer := { s.mixer with clocks := true }
      ports := s.ports.map wakePort
      resets := ⟨finalCause s.resets detectorLast, false, false, false⟩ }
  else s

/-! ### RESTART (R189) -/

/-- R189: holders and dropped marks are emptied, executors READY; a transaction in progress goes on. -/
def restartPort (p : Port) : Port :=
  { p with executor := .ready, holder := none, dropped := false, outHeld := false }

/-- §7.1: band FULL, with its budget and ceiling from the kept table. -/
def restartBudget (b : Budget) : Budget :=
  { Budget.reset with
    table := b.table, limit := b.table.budgets.get 0, ceiling := b.table.ceilings.get 0, sense := b.sense }

/-- R189: the performance state returns to its value after a reset; the settings that the chapters name as kept stay. The
frame in progress, which began before, is the first that the emptied rings take at the next boundary (R77; the model's
choice, log 41). -/
def restartPart (s : State) : State :=
  let s := restartStore s
  { s with
    grid := { s.grid with tempo := none, beatDue := false }
    tracks := Vector.replicate 8 Track.reset
    queue := []
    layers := Vector.replicate 64 Layer.free
    arbiter := { Arbiter.reset with priorities := s.arbiter.priorities }
    rings := Vector.replicate 8 (List.replicate Config.ringFrames 0#32)
    pool := { Pool.reset with lowMark := s.pool.lowMark }
    mixer := { s.mixer with mainClips := 0, cueClips := 0, fadesDue := false }
    budget := restartBudget s.budget
    fold := { FoldUnit.reset with threshold := s.fold.threshold }
    windows := Vector.replicate 4 Window.reset
    ports := s.ports.map restartPort
    attention := { Attention.reset with masks := s.attention.masks }
    resets := { s.resets with cause := .restart } }

end Sys2Proof.Machine
end

