-- ==== Sys2Proof/Machine/Settings.lean ====
section
/-! DEFINITION. Settings and the remaining reads, as executed: SET FADE, SET BANDS, SET FOLD, SET ROUTING, SET LOW MARK, SET
BUS, READ SUPPLY, READ STORE, READ EVENTS, READ CLIPS, READ IDENT. -/

namespace Sys2Proof.Machine

/-- R115. -/
def doSetFade (segLen : BitVec 16) (slopes : Vector Byte 16) (s : State) : Reply × State :=
  (plain .ok, { s with mixer := { s.mixer with
    segLen := clamp 16 1024 segLen.toNat, slopes := slopes.map fun m => clamp 0 15 m.toNat } })

/-- R124: the table is replaced; it acts from the boundary that follows. -/
def doSetBands (ta tb tc hy : BitVec 16) (budgets : Vector (BitVec 16) 4) (ceilings : Vector (BitVec 24) 4)
    (s : State) : Reply × State :=
  (plain .ok, { s with budget := { s.budget with
    table := ⟨ta.toNat, tb.toNat, tc.toNat, hy.toNat, budgets.map clampBudget,
      ceilings.map fun c => clamp 1 8388607 c.toNat⟩
    tableNew := true } })

/-- R141: 0, or 3..12. -/
def clampFold (n : Nat) : Nat := if n = 0 then 0 else clamp 3 12 n

def doSetFold (threshold : BitVec 16) (s : State) : Reply × State :=
  (plain .ok, { s with fold := { s.fold with threshold := clampFold threshold.toNat } })

/-- R186: the mask of the named station; its ATN_N is a function of the state. -/
def doSetRouting (station : Byte) (mask : BitVec 16) (s : State) : Reply × State :=
  let n := stationOf station
  (plain .ok, { s with attention := { s.attention with
    masks := s.attention.masks.set n.val (mask.truncate 14) n.isLt } })

/-- R102: no MEMORY_LOW is raised by the request. -/
def doSetLowMark (mark : BitVec 16) (s : State) : Reply × State :=
  let m := clamp 0 8192 mark.toNat
  (plain .ok, { s with pool := { s.pool with lowMark := m, belowMark := decide (s.pool.free.length < m) } })

/-- R110. -/
def doSetBus (mainGain cueGain : BitVec 24) (s : State) : Reply × State :=
  (plain .ok, { s with mixer := { s.mixer with
    mainGain := clamp 0 Config.unity mainGain.toNat, cueGain := clamp 0 Config.unity cueGain.toNat } })

/-! ### Reads -/

/-- Presence byte and reading (R140, R191). -/
def readingBytes : Option Nat → List Byte
  | none => leBytes 3 0
  | some v => leBytes 1 1 ++ leBytes 2 v

/-- The band table as it reads. -/
def tableBytes (b : BandTable) : List Byte :=
  leBytes 2 b.ta ++ leBytes 2 b.tb ++ leBytes 2 b.tc ++ leBytes 2 b.hy ++
    (b.budgets.toList.flatMap fun n => leBytes 1 n) ++ (b.ceilings.toList.flatMap fun n => leBytes 3 n)

/-- R140, R103. -/
def doReadSupply (s : State) : Reply × State :=
  let b := s.budget
  (okWith (readingBytes b.reading ++ [b.band.byte] ++ leBytes 1 b.limit ++ leBytes 3 b.ceiling ++
    leBytes 1 (streamCount s) ++ [boolByte b.foldPaused] ++ tableBytes b.table ++ leBytes 1 s.fold.threshold ++
    idList b.shedList ++ idList b.reserve ++ leBytes 2 s.pool.free.length ++ leBytes 2 s.pool.lowMark ++
    [boolByte s.pool.belowMark]), s)

/-- Running operation behind its presence byte (R178, R191). -/
def runningBytes : Option StoreOp → List Byte
  | none => leBytes 8 0
  | some op =>
    leBytes 1 1 ++ [op.job.kind.byte] ++ leBytes 1 op.requester.val ++ leBytes 4 op.progress ++ [boolByte op.abort]

/-- Last result behind its presence byte. -/
def lastBytes : Option StoreLast → List Byte
  | none => leBytes 12 0
  | some r =>
    leBytes 1 1 ++ [r.kind.byte] ++ leBytes 1 r.requester.val ++ [r.result.byte] ++ leBytes 4 r.progress ++
      leBytes 4 r.detail.word.toNat

/-- Floor, flags and startup list of the option copy. -/
def optionBytes (o : OptionCopy) : List Byte :=
  leBytes 2 o.floor ++ leBytes 1 (o.releaseBarred.toNat + 2 * o.startupFixed.toNat) ++ leBytes 1 o.list.length ++
    o.list.flatMap fun e => leBytes 1 e.1.val ++ leBytes 2 e.2

/-- The start-up report's result for an entry of the list, with its place in the list: what start-up recorded for that entry;
for an entry start-up has not loaded the manual states none, and the byte is a free value (R178, log 31). -/
def reportByte (x : Store) (e : (TrackId × Nat) × Nat) : Byte :=
  match x.results.lookup e.1 with
  | some r => r.byte
  | none => Config.unreportedResult e.2

/-- R178. -/
def doReadStore (s : State) : Reply × State :=
  let x := s.store
  (okWith ([x.engine.byte] ++ runningBytes x.running ++ lastBytes x.last ++ optionBytes x.option ++
    [boolByte x.optionInvalid] ++ x.option.list.zipIdx.map (reportByte x)), s)

/-- The last-drop record; 0xFF where it names nothing (R191, R42). -/
def dropBytes : Option DropRecord → List Byte
  | none => [0xFF#8, 0xFF#8, 0xFF#8]
  | some d => [BitVec.ofNat 8 d.track.val, d.action.byte, d.reason.byte]

/-- R187: the read and the clear are one event. -/
def doReadEvents (st : Station) (s : State) : Reply × State :=
  let a := s.attention
  (okWith (leBytes 2 (a.events.get st).toNat ++ dropBytes (a.lastDrop.get st)),
    { s with attention := { a with events := a.events.set st.val 0#14 st.isLt } })

/-- R113: the read and the clear are one event. -/
def doReadClips (s : State) : Reply × State :=
  let m := s.mixer
  (okWith (leBytes 2 m.mainClips ++ leBytes 2 m.cueClips ++ leBytes 3 m.mainGain ++ leBytes 3 m.cueGain),
    { s with mixer := { m with mainClips := 0, cueClips := 0 } })

/-- R188. -/
def doReadIdent (s : State) : Reply × State :=
  (okWith (leBytes 2 Config.vendorCode ++ leBytes 2 Config.partCode ++ leBytes 1 Config.revision ++
    leBytes 2 Config.blockCount ++ leBytes 2 Config.sectorCount ++ [s.resets.cause.byte] ++
    s.arbiter.priorities.toList.flatMap fun n => leBytes 1 n), s)

end Sys2Proof.Machine
end

