-- ==== Sys2Proof/Machine/TrackRequests.lean ====
section
/-! DEFINITION. The Track Table's and Action Queue's requests, as executed: ACT, CANCEL, SET TRACK, GUARD, UNGUARD, READ
TRACK. -/

namespace Sys2Proof.Machine

/-- R26. The source is read for RECORD and OVERDUB, the chain flag for STOP (§2.2, R191). -/
def doAct (st : Station) (track action quantize srcStation srcChannel chain : Byte) (s : State) : Reply × State :=
  match Action.ofByte action, Quantize.ofByte quantize with
  | some a, some q =>
    let src := if isTakeStart a then some (sourceOf srcStation srcChannel) else none
    let ch := a == .stop && chain == 1#8
    let r := actRequest st (trackOf track) a q src ch s
    (plain r.1, r.2)
  | _, _ => (plain .param, s)

/-- R37. -/
def doCancel (st : Station) (track : Byte) (s : State) : Reply × State :=
  let r := cancelRequest st (trackOf track) s
  (plain r.1, r.2)

/-- R23. -/
def doSetTrack (track : Byte) (gain : BitVec 24) (bus rank : Byte) (s : State) : Reply × State :=
  let t := trackOf track
  if (s.track t).guards.noEdit then (plain .guarded, s)
  else
    (plain .ok, s.modTrack t fun x =>
      { x with gain := clamp 0 Config.gainMax gain.toNat, bus := (Bus.ofByte bus).getD .main, rank := rank.toNat })

/-- R28. -/
def doGuard (track flags : Byte) (s : State) : Reply × State :=
  (plain .ok, s.modTrack (trackOf track) fun x => { x with guards := x.guards.add (Guards.ofByte flags) })

/-- R29. -/
def doUnguard (track : Byte) (s : State) : Reply × State :=
  let t := trackOf track
  if (s.track t).guards.fixed then (plain .barred, s)
  else (plain .ok, s.modTrack t fun x => { x with guards := Guards.none })

/-- The track's queue entry behind its presence byte; zeros if there is none (R191). -/
def entryBytes : Option Entry → List Byte
  | none => leBytes 12 0
  | some e =>
    leBytes 1 1 ++ [e.action.byte, e.quantize.byte] ++ leBytes 1 e.station.val ++ leBytes 4 e.remaining ++
      leBytes 2 e.backdate ++ leBytes 1 e.retries ++ [boolByte e.emptied]

/-- SL and the sixteen slopes as they read (R115). -/
def curveBytes (m : Mixer) : List Byte := leBytes 2 m.segLen ++ m.slopes.toList.flatMap fun x => leBytes 1 x

/-- R24. -/
def doReadTrack (track : Byte) (s : State) : Reply × State :=
  let t := trackOf track
  let x := s.track t
  (okWith ([x.state.byte] ++ leBytes 1 x.bars ++ leBytes 4 x.tlf ++ leBytes 4 x.pos ++ leBytes 3 x.gain ++
    [x.bus.byte] ++ leBytes 1 x.rank ++ [x.guards.byte] ++ idList x.stack ++ idList x.redo ++
    [orNone x.take, orNone x.takeStation, orNone x.prepared] ++ leBytes 3 x.env ++
    [boolByte x.fade.isSome, boolByte x.foldWanted] ++ entryBytes (waiting s t) ++ curveBytes s.mixer), s)

end Sys2Proof.Machine
end

