-- ==== Sys2Proof/Machine/Ports.lean ====
section
/-! DEFINITION. Station Ports (chapter 11): transactions, the packet path, the executor, the reply holder, and the service of
a request that an executor holds. -/

namespace Sys2Proof.Machine

/-! ### Serving a checked request -/

/-- R183 step 6, for every request but RESTART: the request executes; its reply. -/
def serveRequest (i : Instr) (s : State) : Reply × State :=
  match i with
  | .nop _ => doNop s
  | .setGrid _ fpb bpb cb => doSetGrid fpb bpb cb s
  | .clearGrid _ => doClearGrid s
  | .setCapture _ capb capBpb pref grace => doSetCapture capb capBpb pref grace s
  | .act st t a q ss sc ch => doAct st t a q ss sc ch s
  | .cancel st t => doCancel st t s
  | .setTrack _ t gain bus rank => doSetTrack t gain bus rank s
  | .guard _ t flags => doGuard t flags s
  | .unguard _ t => doUnguard t s
  | .setLayer _ l gain pinned => doSetLayer l gain pinned s
  | .rotate _ l d => doRotate l d s
  | .createLayer _ t bars => doCreateLayer t bars s
  | .openWindow st l ws we dir => doOpenWindow st l ws we dir s
  | .writeData st words => doWriteData st words s
  | .readData st k => doReadData st k s
  | .closeWindow st => doCloseWindow st s
  | .erase st first count => doErase st first count s
  | .blankCheck st first count => doBlankCheck st first count s
  | .save st l first => doSave st l first s
  | .load st first t => doLoad st first t s
  | .verify st l first => doVerify st l first s
  | .sum st first count => doSum st first count s
  | .protect st floor flags => doProtect st floor flags s
  | .setStartup st entries => doSetStartup st entries s
  | .release st => doRelease st s
  | .abortStore _ => doAbortStore s
  | .setFade _ segLen slopes => doSetFade segLen slopes s
  | .setBands _ ta tb tc hy budgets ceilings => doSetBands ta tb tc hy budgets ceilings s
  | .setFold _ threshold => doSetFold threshold s
  | .setRouting _ n mask => doSetRouting n mask s
  | .setLowMark _ mark => doSetLowMark mark s
  | .setBus _ mainGain cueGain => doSetBus mainGain cueGain s
  | .readGrid _ => doReadGrid s
  | .readTrack _ t => doReadTrack t s
  | .readLayer _ l => doReadLayer l s
  | .readSupply _ => doReadSupply s
  | .readStore _ => doReadStore s
  | .readEvents st => doReadEvents st s
  | .readClips _ => doReadClips s
  | .readIdent _ => doReadIdent s
  | _ => (plain .badKind, s)

/-- R189: a request that another port took before the RESTART executes against the part before the reset; its reply is emptied
with the others. A RESTART held there adds nothing to the one that executes. -/
def runHeld (st : Station) (s : State) (u : Station) : State :=
  if u = st then s
  else
    match (s.port u).executor with
    | .holding (.restart _) => s
    | .holding i => finish (serveRequest i s).2
    | .ready | .answered _ => s

/-- RESTART from a port, as executed: the requests that other ports hold come first, S0 to S3 (the model's choice of R189's
two orders, log 32; a packet taken after the RESTART gives the other), then the reset. -/
def restartFrom (st : Station) (s : State) : State := restartPart (stations.foldl (runHeld st) s)

/-- R183 step 6: the request that a port holds executes; its reply. -/
def serve (st : Station) (i : Instr) (s : State) : Reply × State :=
  match i with
  | .restart _ => (plain .ok, restartFrom st s)
  | i => serveRequest i s

/-! ### Replies (R184) -/

/-- R184: reply code in the low seven bits, the dropped mark in bit 7. -/
def statusByte (c : Code) (dropped : Bool) : Byte := c.byte ||| (boolByte dropped <<< 7)

/-- R184: the reply is formed and placed, the mark carried and cleared, the executor READY. The mark is taken as the reply is
placed, so the reply of the request that was WORKING carries it: R184's last sentence, against the last paragraph of the worked
sequence of §11.2, which gives it to the reply after (log 44). A frame still shifting out is no longer the holder's reply
(R181). -/
def placeReply (st : Station) (r : Reply) (s : State) : State :=
  let p := s.port st
  s.setPort st { p with
    executor := .ready, holder := some ⟨statusByte r.code p.dropped, r.body⟩, dropped := false, outHeld := false }

/-- The executor has a reply that it has not placed. -/
def holdReply (st : Station) (r : Reply) (s : State) : State :=
  s.setPort st { s.port st with executor := .answered r }

/-- R182: a packet that finds the executor WORKING. -/
def dropPacket (st : Station) (s : State) : State := s.setPort st { s.port st with dropped := true }

/-! ### Requests as commands (log 8) -/

/-- The executor can take this request: it is READY, or it holds this very request. -/
def canTake (p : Port) (i : Instr) : Bool :=
  match p.executor with
  | .ready => true
  | .holding j => i == j
  | .answered _ => false

/-- R183 steps 3 to 6 for a request given by its fields: the first check that fails gives the reply, else `run` does. -/
def checked (i : Instr) (run : State → Reply × State) (s : State) : Reply × State :=
  match requestCheck s i with
  | some c => (plain c, s)
  | none => run s

/-- A request executes in the executor of its station's port; its reply waits there to be placed (R182). A request that
finds the executor WORKING is discarded with the dropped mark set. Nothing is taken in a reset (log 11). -/
def request (st : Station) (i : Instr) (run : State → Reply × State) (s : State) : State :=
  if s.resets.inReset then s
  else if canTake (s.port st) i then
    let r := checked i run s
    finish (holdReply st r.1 r.2)
  else dropPacket st s

/-- R189: RESTART places its own reply. -/
def restartRequest (st : Station) (s : State) : State :=
  if s.resets.inReset then s
  else if canTake (s.port st) (.restart st) then
    match requestCheck s (.restart st) with
    | some c => finish (holdReply st (plain c) s)
    | none => finish (placeReply st (plain .ok) (restartFrom st s))
  else dropPacket st s

/-! ### Transactions (R179 to R182) -/

/-- R181: the frame fixed at the falling edge, and whether it is the holder's reply. -/
def fixedFrame (p : Port) : Frame × Bool :=
  match p.executor with
  | .ready =>
    match p.holder with
    | none => (⟨Code.empty.byte, []⟩, false)
    | some f => (f, true)
  | _ => (⟨Code.pending.byte, []⟩, false)

/-- CS_FALL (R180, R181); during a reset only the pin moves (R179). -/
def csFallPort (inReset : Bool) (p : Port) : Port :=
  if p.csLow then p
  else if inReset then { p with csLow := true }
  else
    let f := fixedFrame p
    { p with csLow := true, rx := .receiving [], out := some f.1, outHeld := f.2 }

/-- CS_RISE (R180): an incomplete packet is discarded. -/
def csRisePort (p : Port) : Port := { p with csLow := false, rx := .idle, out := none, outHeld := false }

/-- The bytes of a packet, as gathered (R180). -/
def packetBytes (kind len : Byte) (body : List Byte) (check : Byte) : List Byte := kind :: len :: (body ++ [check])

/-- PACKET_RECEIVED (R180, R182, R183): only the first packet of a transaction is taken, whole (log 10). No value of a byte
makes it filler: 3 + n bytes are a packet whatever they are, so three bytes 0x00 get BAD_CHECK (the model's reading, log 46). -/
def receivePacket (st : Station) (kind len : Byte) (body : List Byte) (check : Byte) (s : State) : State :=
  let p := s.port st
  if p.rx = .receiving [] ∧ body.length = len.toNat ∧ s.resets.inReset = false then
    let p := { p with rx := .receiving (packetBytes kind len body check) }
    match p.executor with
    | .ready =>
      match packetCheck s st kind len body check with
      | .ok i => s.setPort st { p with executor := .holding i }
      | .error c => s.setPort st { p with executor := .answered (plain c) }
    | _ => s.setPort st { p with dropped := true }
  else s

/-- REPLY_DELIVERED (R181): the check byte of a holder reply has been shifted out whole. -/
def deliverPort (p : Port) : Port :=
  if p.outHeld then { p with holder := none, outHeld := false } else p

/-- REPLY_PLACED (R182, R184, log 9): a held request executes, and the reply is placed. -/
def placeExecuted (st : Station) (s : State) : State :=
  if s.resets.inReset then s
  else
    match (s.port st).executor with
    | .ready => s
    | .answered r => placeReply st r s
    | .holding i =>
      let r := serve st i s
      finish (placeReply st r.1 r.2)

/-! ### The outbound bytes (R181, R191) -/

/-- The bytes of a reply frame: status, length, body, check. -/
def frameBytes (f : Frame) : List Byte :=
  let head := f.status :: BitVec.ofNat 8 f.body.length :: f.body
  head ++ [BitVec.ofNat 8 (255 - (head.map BitVec.toNat).sum % 256)]

/-- R181: outbound byte k of the transaction in progress: the frame's bytes, then 0x00. With no transaction the port drives
none. -/
def outboundByte (p : Port) (k : Nat) : Option Byte := p.out.map fun f => (frameBytes f).getD k 0#8

end Sys2Proof.Machine
end

