-- ==== Sys2Proof/Machine/RowsBoundary.lean ====
section
/-! DEFINITION. Meanings: the frame boundary and the events that fall due at it. An event that is not due changes nothing
(log 6); an event taken ends with the start attempt it asked for and, once nothing is due, the frame's pair. -/

namespace Sys2Proof.Machine

/-- FRAME_BOUNDARY (R2). -/
def execFrameBoundary (inputs : Vector Sample 8) (late : Late) (s : State) : Host.Outcome State Fault Refusal :=
  .next (frameBoundary inputs late s)

/-- BEAT_BOUNDARY (R2). -/
def execBeatBoundary (foldFirst : Bool) (s : State) : Host.Outcome State Fault Refusal :=
  .next (finish (beatEvent foldFirst s))

/-- ENTRY_FIRE (R32). -/
def execEntryFire (order : FireOrder) (s : State) : Host.Outcome State Fault Refusal :=
  .next (finish (entryEvent order s))

/-- TAKE_LIMIT_CLOSE (R81). -/
def execTakeLimitClose (h : HeadId) (s : State) : Host.Outcome State Fault Refusal := .next (finish (limitClose h s))

/-- SHORT_TAKE_CLOSE (R83), and a look-ahead of the head that was left for later (R97, log 7). -/
def execShortTakeClose (h : HeadId) (s : State) : Host.Outcome State Fault Refusal := .next (finish (shortEvent h s))

/-- PASS_END (R87). -/
def execPassEnd (h : HeadId) (foldFirst : Bool) (s : State) : Host.Outcome State Fault Refusal :=
  .next (finish (endPass h foldFirst s))

/-- FADE_END (R117). -/
def execFadeEnd (which : FadeSel) (s : State) : Host.Outcome State Fault Refusal := .next (finish (fadeEvent which s))

/-- FOLD_COMPLETE (R147): the advance that waits at this boundary is taken. -/
def execFoldComplete (s : State) : Host.Outcome State Fault Refusal := .next (finish (advanceFoldIfDue s))

/-- SUPPLY_READING (R123): the level of SENSE, and what waits for it (log 30), in either order (R139). -/
def execSupplyReading (sense : SenseInput) (s : State) : Host.Outcome State Fault Refusal :=
  .next (finish (supplyEvents sense.readingFirst { s with budget := { s.budget with sense := sense.level } }))

end Sys2Proof.Machine
end

