-- ==== Sys2Proof/Machine/RowsFlash.lean ====
section
/-! DEFINITION. Meanings: completions of the keep flash. -/

namespace Sys2Proof.Machine

/-- FLASH_SECTOR_DONE (R166, R167, R174). -/
def execFlashSectorDone (eraseFailed : Bool) (left : FlashLeft) (s : State) : Host.Outcome State Fault Refusal :=
  .next (finish (sectorDone eraseFailed left s))

/-- FLASH_PAGE_DONE (R168). -/
def execFlashPageDone (faults : PageFaults) (s : State) : Host.Outcome State Fault Refusal :=
  .next (finish (pageDone faults s))

/-- VERIFY_PROGRESS (R169). -/
def execVerifyProgress (words : Nat) (s : State) : Host.Outcome State Fault Refusal :=
  .next (finish (verifyDone words s))

/-- LOAD_COPY_DONE (R171). -/
def execLoadCopyDone (words : Nat) (s : State) : Host.Outcome State Fault Refusal :=
  .next (finish (copyDone words s))

/-- OPTION_REWRITE_DONE (R172). -/
def execOptionRewriteDone (eraseFailed : Bool) (left : FlashLeft) (faults : PageFaults) (s : State) :
    Host.Outcome State Fault Refusal :=
  .next (finish (rewriteDone eraseFailed left faults s))

end Sys2Proof.Machine
end

