-- ==== Sys2Proof/Machine/RowsPorts.lean ====
section
/-! DEFINITION. Meanings: edges, packets and replies at the station ports. -/

namespace Sys2Proof.Machine

/-- CS_FALL (R180, R181). -/
def execCsFall (st : Station) (s : State) : Host.Outcome State Fault Refusal :=
  .next (s.setPort st (csFallPort s.resets.inReset (s.port st)))

/-- CS_RISE (R180). -/
def execCsRise (st : Station) (s : State) : Host.Outcome State Fault Refusal :=
  .next (s.setPort st (csRisePort (s.port st)))

/-- PACKET_RECEIVED (R182, R183). -/
def execPacketReceived (st : Station) (kind len : Byte) (body : List Byte) (check : Byte) (s : State) :
    Host.Outcome State Fault Refusal :=
  .next (receivePacket st kind len body check s)

/-- REPLY_DELIVERED (R181). -/
def execReplyDelivered (st : Station) (s : State) : Host.Outcome State Fault Refusal :=
  .next (s.setPort st (deliverPort (s.port st)))

/-- REPLY_PLACED (R182, R184). -/
def execReplyPlaced (st : Station) (s : State) : Host.Outcome State Fault Refusal := .next (placeExecuted st s)

end Sys2Proof.Machine
end

