-- ==== Sys2Proof/Machine/RowsRequests.lean ====
section
/-! DEFINITION. Meanings: the requests of the four stations, each executed in the executor of its station's port after the
checks of R183 (log 8). -/

namespace Sys2Proof.Machine

/-- NOP (R183). -/
def execNop (st : Station) (s : State) : Host.Outcome State Fault Refusal :=
  .next (request st (.nop st) doNop s)

/-- SET_GRID (R6). -/
def execSetGrid (st : Station) (fpb : BitVec 16) (bpb cb : Byte) (s : State) : Host.Outcome State Fault Refusal :=
  .next (request st (.setGrid st fpb bpb cb) (doSetGrid fpb bpb cb) s)

/-- CLEAR_GRID (R7). -/
def execClearGrid (st : Station) (s : State) : Host.Outcome State Fault Refusal :=
  .next (request st (.clearGrid st) doClearGrid s)

/-- SET_CAPTURE (R8). -/
def execSetCapture (st : Station) (capb capBpb : Byte) (pref grace : BitVec 16)
    (s : State) : Host.Outcome State Fault Refusal :=
  .next (request st (.setCapture st capb capBpb pref grace) (doSetCapture capb capBpb pref grace) s)

/-- ACT (R26). -/
def execAct (st : Station) (track action quantize srcStation srcChannel chain : Byte)
    (s : State) : Host.Outcome State Fault Refusal :=
  .next (request st (.act st track action quantize srcStation srcChannel chain)
    (doAct st track action quantize srcStation srcChannel chain) s)

/-- CANCEL (R37). -/
def execCancel (st : Station) (track : Byte) (s : State) : Host.Outcome State Fault Refusal :=
  .next (request st (.cancel st track) (doCancel st track) s)

/-- SET_TRACK (R23). -/
def execSetTrack (st : Station) (track : Byte) (gain : BitVec 24) (bus rank : Byte)
    (s : State) : Host.Outcome State Fault Refusal :=
  .next (request st (.setTrack st track gain bus rank) (doSetTrack track gain bus rank) s)

/-- GUARD (R28). -/
def execGuard (st : Station) (track flags : Byte) (s : State) : Host.Outcome State Fault Refusal :=
  .next (request st (.guard st track flags) (doGuard track flags) s)

/-- UNGUARD (R29). -/
def execUnguard (st : Station) (track : Byte) (s : State) : Host.Outcome State Fault Refusal :=
  .next (request st (.unguard st track) (doUnguard track) s)

/-- SET_LAYER (R67). -/
def execSetLayer (st : Station) (layer : Byte) (gain : BitVec 24) (pinned : Byte)
    (s : State) : Host.Outcome State Fault Refusal :=
  .next (request st (.setLayer st layer gain pinned) (doSetLayer layer gain pinned) s)

/-- ROTATE (R68). -/
def execRotate (st : Station) (layer : Byte) (d : Word) (s : State) : Host.Outcome State Fault Refusal :=
  .next (request st (.rotate st layer d) (doRotate layer d) s)

/-- CREATE_LAYER (R69). -/
def execCreateLayer (st : Station) (track bars : Byte) (s : State) : Host.Outcome State Fault Refusal :=
  .next (request st (.createLayer st track bars) (doCreateLayer track bars) s)

/-- OPEN_WINDOW (R154). -/
def execOpenWindow (st : Station) (layer : Byte) (ws we : Word) (direction : Byte)
    (s : State) : Host.Outcome State Fault Refusal :=
  .next (request st (.openWindow st layer ws we direction) (doOpenWindow st layer ws we direction) s)

/-- WRITE_DATA (R157). -/
def execWriteData (st : Station) (words : List Word) (s : State) : Host.Outcome State Fault Refusal :=
  .next (request st (.writeData st words) (doWriteData st words) s)

/-- READ_DATA (R156). -/
def execReadData (st : Station) (k : Byte) (s : State) : Host.Outcome State Fault Refusal :=
  .next (request st (.readData st k) (doReadData st k) s)

/-- CLOSE_WINDOW (R159). -/
def execCloseWindow (st : Station) (s : State) : Host.Outcome State Fault Refusal :=
  .next (request st (.closeWindow st) (doCloseWindow st) s)

/-- ERASE (R166). -/
def execErase (st : Station) (first count : BitVec 16) (s : State) : Host.Outcome State Fault Refusal :=
  .next (request st (.erase st first count) (doErase st first count) s)

/-- BLANK_CHECK (R167). -/
def execBlankCheck (st : Station) (first count : BitVec 16) (s : State) : Host.Outcome State Fault Refusal :=
  .next (request st (.blankCheck st first count) (doBlankCheck st first count) s)

/-- SAVE (R168). -/
def execSave (st : Station) (layer : Byte) (first : BitVec 16) (s : State) : Host.Outcome State Fault Refusal :=
  .next (request st (.save st layer first) (doSave st layer first) s)

/-- LOAD (R170). -/
def execLoad (st : Station) (first : BitVec 16) (track : Byte) (s : State) : Host.Outcome State Fault Refusal :=
  .next (request st (.load st first track) (doLoad st first track) s)

/-- VERIFY (R169). -/
def execVerify (st : Station) (layer : Byte) (first : BitVec 16) (s : State) : Host.Outcome State Fault Refusal :=
  .next (request st (.verify st layer first) (doVerify st layer first) s)

/-- SUM (R167). -/
def execSum (st : Station) (first count : BitVec 16) (s : State) : Host.Outcome State Fault Refusal :=
  .next (request st (.sum st first count) (doSum st first count) s)

/-- PROTECT (R173). -/
def execProtect (st : Station) (floor : BitVec 16) (flags : Byte) (s : State) : Host.Outcome State Fault Refusal :=
  .next (request st (.protect st floor flags) (doProtect st floor flags) s)

/-- SET_STARTUP (R173). -/
def execSetStartup (st : Station) (entries : List (Byte × BitVec 16)) (s : State) : Host.Outcome State Fault Refusal :=
  .next (request st (.setStartup st entries) (doSetStartup st entries) s)

/-- RELEASE (R174). -/
def execRelease (st : Station) (s : State) : Host.Outcome State Fault Refusal :=
  .next (request st (.release st) (doRelease st) s)

/-- ABORT_STORE (R175). -/
def execAbortStore (st : Station) (s : State) : Host.Outcome State Fault Refusal :=
  .next (request st (.abortStore st) doAbortStore s)

/-- SET_FADE (R115). -/
def execSetFade (st : Station) (segLen : BitVec 16) (slopes : Vector Byte 16)
    (s : State) : Host.Outcome State Fault Refusal :=
  .next (request st (.setFade st segLen slopes) (doSetFade segLen slopes) s)

/-- SET_BANDS (R124). -/
def execSetBands (st : Station) (ta tb tc hy : BitVec 16) (budgets : Vector (BitVec 16) 4) (ceilings : Vector (BitVec 24) 4)
    (s : State) : Host.Outcome State Fault Refusal :=
  .next (request st (.setBands st ta tb tc hy budgets ceilings) (doSetBands ta tb tc hy budgets ceilings) s)

/-- SET_FOLD (R141). -/
def execSetFold (st : Station) (threshold : BitVec 16) (s : State) : Host.Outcome State Fault Refusal :=
  .next (request st (.setFold st threshold) (doSetFold threshold) s)

/-- SET_ROUTING (R186). -/
def execSetRouting (st : Station) (station : Byte) (mask : BitVec 16) (s : State) : Host.Outcome State Fault Refusal :=
  .next (request st (.setRouting st station mask) (doSetRouting station mask) s)

/-- SET_LOW_MARK (R102). -/
def execSetLowMark (st : Station) (mark : BitVec 16) (s : State) : Host.Outcome State Fault Refusal :=
  .next (request st (.setLowMark st mark) (doSetLowMark mark) s)

/-- SET_BUS (R110). -/
def execSetBus (st : Station) (mainGain cueGain : BitVec 24) (s : State) : Host.Outcome State Fault Refusal :=
  .next (request st (.setBus st mainGain cueGain) (doSetBus mainGain cueGain) s)

/-- READ_GRID (R5). -/
def execReadGrid (st : Station) (s : State) : Host.Outcome State Fault Refusal :=
  .next (request st (.readGrid st) doReadGrid s)

/-- READ_TRACK (R24). -/
def execReadTrack (st : Station) (track : Byte) (s : State) : Host.Outcome State Fault Refusal :=
  .next (request st (.readTrack st track) (doReadTrack track) s)

/-- READ_LAYER (R71). -/
def execReadLayer (st : Station) (layer : Byte) (s : State) : Host.Outcome State Fault Refusal :=
  .next (request st (.readLayer st layer) (doReadLayer layer) s)

/-- READ_SUPPLY (R140). -/
def execReadSupply (st : Station) (s : State) : Host.Outcome State Fault Refusal :=
  .next (request st (.readSupply st) doReadSupply s)

/-- READ_STORE (R178). -/
def execReadStore (st : Station) (s : State) : Host.Outcome State Fault Refusal :=
  .next (request st (.readStore st) doReadStore s)

/-- READ_EVENTS (R187). -/
def execReadEvents (st : Station) (s : State) : Host.Outcome State Fault Refusal :=
  .next (request st (.readEvents st) (doReadEvents st) s)

/-- READ_CLIPS (R113). -/
def execReadClips (st : Station) (s : State) : Host.Outcome State Fault Refusal :=
  .next (request st (.readClips st) doReadClips s)

/-- READ_IDENT (R188). -/
def execReadIdent (st : Station) (s : State) : Host.Outcome State Fault Refusal :=
  .next (request st (.readIdent st) doReadIdent s)

/-- RESTART (R189). -/
def execRestart (st : Station) (s : State) : Host.Outcome State Fault Refusal := .next (restartRequest st s)

end Sys2Proof.Machine
end

