-- ==== Sys2Proof/Machine/RowsResets.lean ====
section
/-! DEFINITION. Meanings: resets and start-up. -/

namespace Sys2Proof.Machine

/-- POWER_RESET (R176): what RESET_N or the core detector held before is forgotten, so RESET_END names POWER unless another
reset follows (the model's choice, log 47). -/
def execPowerReset (straps : Vector Strap 4) (left : FlashLeft) (s : State) : Host.Outcome State Fault Refusal :=
  .next (coldReset .power false false straps left s)

/-- BROWNOUT_RESET (R176): the core detector holds the part; RESET_N may hold it too. -/
def execBrownoutReset (straps : Vector Strap 4) (left : FlashLeft) (s : State) : Host.Outcome State Fault Refusal :=
  .next (coldReset .brownout s.resets.pinHolds true straps left s)

/-- PIN_RESET (R176): RESET_N holds the part; the core detector may hold it too. -/
def execPinReset (straps : Vector Strap 4) (left : FlashLeft) (s : State) : Host.Outcome State Fault Refusal :=
  .next (coldReset .pin true s.resets.detectorHolds straps left s)

/-- RESET_END (R114, R179, R188). -/
def execResetEnd (detectorLast : Bool) (s : State) : Host.Outcome State Fault Refusal :=
  .next (endReset detectorLast s)

/-- STARTUP (R177 steps 1 to 3; the pool already holds its ascending list, R93). -/
def execStartup (s : State) : Host.Outcome State Fault Refusal :=
  .next (finish (startupWhenReady s))

/-- STARTUP_COMMIT (R177 steps 4 and 5). -/
def execStartupCommit (s : State) : Host.Outcome State Fault Refusal := .next (finish (startupEvent s))

end Sys2Proof.Machine
end

