-- ==== Sys2Proof/Machine/Dispatch.lean ====
section
/-! DEFINITION. One arm per command: a direct call of its meaning. -/

namespace Sys2Proof.Machine

def exec (i : Instr) (s : State) : Host.Outcome State Fault Refusal :=
  match i with
  | .powerReset straps left => Sys2Proof.Machine.execPowerReset straps left s
  | .brownoutReset straps left => Sys2Proof.Machine.execBrownoutReset straps left s
  | .pinReset straps left => Sys2Proof.Machine.execPinReset straps left s
  | .resetEnd detectorLast => Sys2Proof.Machine.execResetEnd detectorLast s
  | .startup => Sys2Proof.Machine.execStartup s
  | .startupCommit => Sys2Proof.Machine.execStartupCommit s
  | .csFall st => Sys2Proof.Machine.execCsFall st s
  | .csRise st => Sys2Proof.Machine.execCsRise st s
  | .packetReceived st kind len body check => Sys2Proof.Machine.execPacketReceived st kind len body check s
  | .replyDelivered st => Sys2Proof.Machine.execReplyDelivered st s
  | .nop st => Sys2Proof.Machine.execNop st s
  | .setGrid st fpb bpb cb => Sys2Proof.Machine.execSetGrid st fpb bpb cb s
  | .clearGrid st => Sys2Proof.Machine.execClearGrid st s
  | .setCapture st capb capBpb pref grace => Sys2Proof.Machine.execSetCapture st capb capBpb pref grace s
  | .act st track action quantize srcStation srcChannel chain => Sys2Proof.Machine.execAct st track action quantize srcStation srcChannel chain s
  | .cancel st track => Sys2Proof.Machine.execCancel st track s
  | .setTrack st track gain bus rank => Sys2Proof.Machine.execSetTrack st track gain bus rank s
  | .guard st track flags => Sys2Proof.Machine.execGuard st track flags s
  | .unguard st track => Sys2Proof.Machine.execUnguard st track s
  | .setLayer st layer gain pinned => Sys2Proof.Machine.execSetLayer st layer gain pinned s
  | .rotate st layer d => Sys2Proof.Machine.execRotate st layer d s
  | .createLayer st track bars => Sys2Proof.Machine.execCreateLayer st track bars s
  | .openWindow st layer ws we direction => Sys2Proof.Machine.execOpenWindow st layer ws we direction s
  | .writeData st words => Sys2Proof.Machine.execWriteData st words s
  | .readData st k => Sys2Proof.Machine.execReadData st k s
  | .closeWindow st => Sys2Proof.Machine.execCloseWindow st s
  | .erase st first count => Sys2Proof.Machine.execErase st first count s
  | .blankCheck st first count => Sys2Proof.Machine.execBlankCheck st first count s
  | .save st layer first => Sys2Proof.Machine.execSave st layer first s
  | .load st first track => Sys2Proof.Machine.execLoad st first track s
  | .verify st layer first => Sys2Proof.Machine.execVerify st layer first s
  | .sum st first count => Sys2Proof.Machine.execSum st first count s
  | .protect st floor flags => Sys2Proof.Machine.execProtect st floor flags s
  | .setStartup st entries => Sys2Proof.Machine.execSetStartup st entries s
  | .release st => Sys2Proof.Machine.execRelease st s
  | .abortStore st => Sys2Proof.Machine.execAbortStore st s
  | .setFade st segLen slopes => Sys2Proof.Machine.execSetFade st segLen slopes s
  | .setBands st ta tb tc hy budgets ceilings => Sys2Proof.Machine.execSetBands st ta tb tc hy budgets ceilings s
  | .setFold st threshold => Sys2Proof.Machine.execSetFold st threshold s
  | .setRouting st station mask => Sys2Proof.Machine.execSetRouting st station mask s
  | .setLowMark st mark => Sys2Proof.Machine.execSetLowMark st mark s
  | .setBus st mainGain cueGain => Sys2Proof.Machine.execSetBus st mainGain cueGain s
  | .readGrid st => Sys2Proof.Machine.execReadGrid st s
  | .readTrack st track => Sys2Proof.Machine.execReadTrack st track s
  | .readLayer st layer => Sys2Proof.Machine.execReadLayer st layer s
  | .readSupply st => Sys2Proof.Machine.execReadSupply st s
  | .readStore st => Sys2Proof.Machine.execReadStore st s
  | .readEvents st => Sys2Proof.Machine.execReadEvents st s
  | .readClips st => Sys2Proof.Machine.execReadClips st s
  | .readIdent st => Sys2Proof.Machine.execReadIdent st s
  | .restart st => Sys2Proof.Machine.execRestart st s
  | .frameBoundary inputs late => Sys2Proof.Machine.execFrameBoundary inputs late s
  | .beatBoundary foldFirst => Sys2Proof.Machine.execBeatBoundary foldFirst s
  | .entryFire order => Sys2Proof.Machine.execEntryFire order s
  | .takeLimitClose h => Sys2Proof.Machine.execTakeLimitClose h s
  | .shortTakeClose h => Sys2Proof.Machine.execShortTakeClose h s
  | .passEnd h foldFirst => Sys2Proof.Machine.execPassEnd h foldFirst s
  | .fadeEnd which => Sys2Proof.Machine.execFadeEnd which s
  | .foldComplete => Sys2Proof.Machine.execFoldComplete s
  | .supplyReading sense => Sys2Proof.Machine.execSupplyReading sense s
  | .flashSectorDone eraseFailed left => Sys2Proof.Machine.execFlashSectorDone eraseFailed left s
  | .flashPageDone faults => Sys2Proof.Machine.execFlashPageDone faults s
  | .verifyProgress words => Sys2Proof.Machine.execVerifyProgress words s
  | .loadCopyDone words => Sys2Proof.Machine.execLoadCopyDone words s
  | .optionRewriteDone eraseFailed left faults => Sys2Proof.Machine.execOptionRewriteDone eraseFailed left faults s
  | .replyPlaced st => Sys2Proof.Machine.execReplyPlaced st s

end Sys2Proof.Machine
end

