-- ==== Sys2Proof/WellFormed.lean ====
section
/-! DEFINITION. Which commands are well formed: the shapes that the operand types alone do not fix. A command that is not
well formed is one that the outside cannot send (a packet whose body is not as long as its length byte says) or one that
the port answers BAD_LENGTH (R157, R183). -/

namespace Sys2Proof

/-- R180: a packet has exactly as many body bytes as its length byte says. -/
def packetWf (len : Byte) (body : List Byte) : Bool := decide (body.length = len.toNat)

/-- R157: WRITE DATA carries 1 to 60 sample words. -/
def writeWf (words : List Word) : Bool := decide (1 ≤ words.length) && decide (words.length ≤ 60)

/-- R173: SET STARTUP carries 0 to 4 entries. -/
def startupWf (entries : List (Byte × BitVec 16)) : Bool := decide (entries.length ≤ 4)

/-- R163: an index of a word in a page of 64 words. -/
def pageWf (faults : PageFaults) : Bool := faults.all fun f => decide (f.1 < 64)

/-- R163: an offset of a byte in a sector of 64 KiB. -/
def leftWf (left : FlashLeft) : Bool := left.all fun b => decide (b.1 < 65536)

/-- A SENSE reading is limited to 0..2,550 by the part (R123); the pin itself may stand anywhere, so nothing is asked. -/
def Instr.wf : Instr → Bool
  | .powerReset _ left => leftWf left
  | .brownoutReset _ left => leftWf left
  | .pinReset _ left => leftWf left
  | .packetReceived _ _ len body _ => packetWf len body
  | .writeData _ words => writeWf words
  | .setStartup _ entries => startupWf entries
  | .flashSectorDone _ left => leftWf left
  | .flashPageDone faults => pageWf faults
  | .optionRewriteDone _ left faults => leftWf left && pageWf faults
  | _ => true

end Sys2Proof
end

