-- ==== Sys2Proof/Safety.lean ====
section
/-! DEFINITION. What counts as a safe state: the two memories in canonical form, and the laws of the device that the manual
names, as predicates on one state. -/

namespace Sys2Proof.Machine

/-- Loop DRAM and keep flash are in canonical form. -/
abbrev MemoriesWf (s : State) : Prop := Memory.wf dramDefault s.dram ∧ Memory.wf flashDefault s.flash

/-- A step from here answers a next state. -/
def Goes (s : State) : Prop := ∃ t, step s = .next t

/-- The settings that R189 keeps. -/
def State.settings (s : State) :=
  (s.grid.capb, s.grid.capBpb, s.grid.pref, s.grid.grace, s.mixer.mainGain, s.mixer.cueGain, s.mixer.segLen,
    s.mixer.slopes, s.budget.table, s.fold.threshold, s.pool.lowMark, s.attention.masks, s.arbiter.priorities)

/-- The requests of R183 step 6, by the station whose port carries them; none for a command that is no request. -/
def requester : Instr → Option Station
  | .nop st | .setGrid st .. | .clearGrid st | .setCapture st .. | .act st .. | .cancel st _ | .setTrack st ..
  | .guard st .. | .unguard st _ | .setLayer st .. | .rotate st .. | .createLayer st .. | .openWindow st ..
  | .writeData st _ | .readData st _ | .closeWindow st | .erase st .. | .blankCheck st .. | .save st .. | .load st ..
  | .verify st .. | .sum st .. | .protect st .. | .setStartup st _ | .release st | .abortStore st | .setFade st ..
  | .setBands st .. | .setFold st _ | .setRouting st .. | .setLowMark st _ | .setBus st .. | .readGrid st
  | .readTrack st _ | .readLayer st _ | .readSupply st | .readStore st | .readEvents st | .readClips st
  | .readIdent st | .restart st => some st
  | _ => none

/-- The request can be taken as a command of its own: no reset holds the part, the port's executor is READY or holds this
very request, and the checks of R183 pass. -/
abbrev Taken (i : Instr) (st : Station) (s : State) : Prop :=
  s.resets.inReset = false ∧ canTake (s.port st) i = true ∧ requestCheck s i = none


/-! ### Invariants: laws of the device that every command keeps -/

/-- Nothing that a command asked for is left over: no fold start attempt waits (log 29), and a frame whose pair is not
formed has an event of its boundary still to come (log 5). -/
abbrev Settled (s : State) : Prop := s.fold.attemptDue = false ∧ (s.mixer.frameOpen = true → anyDue s = true)

/-- R31, R33: one waiting entry for a track, and the list in firing order. -/
abbrev QueueOk (s : State) : Prop :=
  (s.queue.map Entry.track).Nodup ∧ (s.queue.map Entry.remaining).Pairwise (· ≤ ·)

/-- The ranges of the settings: R8, R110, R115, R124, R141, R102, R73. -/
abbrev SettingsOk (s : State) : Prop :=
  s.grid.capb ≤ 16 ∧ (1 ≤ s.grid.capBpb ∧ s.grid.capBpb ≤ 12) ∧ (12000 ≤ s.grid.pref ∧ s.grid.pref ≤ 48000) ∧
    s.grid.grace ≤ 4095 ∧ s.mixer.mainGain ≤ 65536 ∧ s.mixer.cueGain ≤ 65536 ∧
    (16 ≤ s.mixer.segLen ∧ s.mixer.segLen ≤ 1024) ∧ (∀ i, s.mixer.slopes.get i ≤ 15) ∧
    (s.budget.table.tc < s.budget.table.tb ∧ s.budget.table.tb < s.budget.table.ta) ∧ s.budget.table.ta ≤ 2550 ∧
    s.budget.table.hy ≤ 200 ∧ (∀ i, 1 ≤ s.budget.table.budgets.get i ∧ s.budget.table.budgets.get i ≤ 48) ∧
    (∀ i, 1 ≤ s.budget.table.ceilings.get i ∧ s.budget.table.ceilings.get i ≤ 8388607) ∧
    (s.fold.threshold = 0 ∨ (3 ≤ s.fold.threshold ∧ s.fold.threshold ≤ 12)) ∧ s.pool.lowMark ≤ 8192 ∧
    ∀ st, s.arbiter.priorities.get st ≤ 3

/-- R1, R3: the ranges of the grid record and of the position in it. -/
def GridOk (s : State) : Prop :=
  ∀ g, s.grid.tempo = some g → (12000 ≤ g.fpb ∧ g.fpb ≤ 48000) ∧ (1 ≤ g.bpb ∧ g.bpb ≤ 12) ∧ (1 ≤ g.cb ∧ g.cb ≤ 16) ∧
    g.bar < g.cb ∧ g.beat < g.bpb ∧ g.f < g.fpb

/-- ENTRY_FIRE finds one due entry: the state is settled, its settings are in range, the list is that entry with count 0,
and no look-ahead waits that the command would take (R97). -/
abbrev OneDue (order : FireOrder) (e : Entry) (s : State) : Prop :=
  Settled s ∧ SettingsOk s ∧ s.queue = [e] ∧ e.remaining = 0 ∧ (order.lookFirst = true → ∀ h, lookDue s h = false)

/-- The head records the layer for the track, and no other head does. -/
abbrev Records (h : HeadId) (held : Held) (t : TrackId) (l : LayerId) (s : State) : Prop :=
  s.head h = some held ∧ held.track = t ∧ held.layer = l ∧ (s.track t).take = some l ∧
    ∀ g x, s.head g = some x → x.layer = l → g = h

/-- R149: a purge of the layer, or an UNDO of it, leaves a running fold alone: it is neither its result nor a source. -/
abbrev NoFold (l : LayerId) (s : State) : Prop := ∀ j, s.fold.job = some j → l ≠ j.result ∧ (s.layer l).folding = false

/-- R59: the layers of the track's redo list are its own, none of them on its stack, prepared, the layer `l` or in a fold. -/
abbrev RedoOwn (t : TrackId) (l : LayerId) (s : State) : Prop :=
  ∀ m ∈ (s.track t).redo, (s.layer m).track = some t ∧ m ∉ (s.track t).stack ∧ (s.track t).prepared ≠ some m ∧ m ≠ l ∧
    NoFold m s

/-- R182, R183: a request that an executor holds came through its own port and passed steps 3 and 5. -/
def HeldOk (s : State) : Prop :=
  ∀ st i, (s.port st).executor = .holding i → requester i = some st ∧ lengthOk i = true ∧ fieldsOk i = true

/-- The blocks that a layer's extent list names (R91). -/
def Layer.blocks (x : Layer) : List Nat := x.extents.map Extent.block

/-- Every block that stands somewhere: in the free list, or in the extent list of a layer. -/
def allBlocks (s : State) : List Nat := s.pool.free ++ s.layers.toList.flatMap Layer.blocks

/-- R91, R92: each of the 8,192 blocks stands in the free list or in one extent list, once; a FREE slot has none; the
layers that heads record into are not FREE and differ. -/
def BlocksOk (s : State) : Prop :=
  (allBlocks s).Perm (List.range Config.blockCount) ∧ (∀ l, (s.layer l).state = .free → (s.layer l).extents = []) ∧
    (∀ h x, s.head h = some x → (s.layer x.layer).state ≠ .free) ∧
    ∀ h g x y, s.head h = some x → s.head g = some y → x.layer = y.layer → h = g

/-- R117: an envelope and its fade stay in 0..65,536. -/
def EnvelopeOk (env : Nat) (f : Option Fade) : Prop := env ≤ 65536 ∧ ∀ x, f = some x → x.start ≤ 65536 ∧ x.target ≤ 65536

def EnvelopesOk (s : State) : Prop :=
  (∀ t, EnvelopeOk (s.track t).env (s.track t).fade) ∧ ∀ l, EnvelopeOk (s.layer l).env (s.layer l).fade

/-- R153: an OPEN window names a layer, and it is LIVE, REDO or PREPARING. -/
def WindowsOk (s : State) : Prop :=
  ∀ st, (s.window st).state = .opened → ∃ l, (s.window st).layer = some l ∧
    ((s.layer l).state = .live ∨ (s.layer l).state = .redo ∨ (s.layer l).state = .preparing)

/-- R50, R62: the layers that a track names are its own and in the state of the list that names them, each named once; an
EMPTY or FIRST_REC track has no stack, a take goes with FIRST_REC and OVERDUB (R21, R72), and a shed rank is 0..7 (R23). -/
def TracksOk (s : State) : Prop :=
  ∀ t, (s.track t).stack.Nodup ∧ (∀ l ∈ (s.track t).stack, (s.layer l).state = .live ∧ (s.layer l).track = some t) ∧
    (s.track t).redo.Nodup ∧ (∀ l ∈ (s.track t).redo, (s.layer l).state = .redo ∧ (s.layer l).track = some t) ∧
    (∀ l ∈ (s.track t).take, (s.layer l).state = .recording ∧ (s.layer l).track = some t) ∧
    (∀ l ∈ (s.track t).prepared, (s.layer l).state = .preparing ∧ (s.layer l).track = some t) ∧
    ((s.track t).state = .empty ∨ (s.track t).state = .firstRec → (s.track t).stack = []) ∧
    ((s.track t).take ≠ none ↔ (s.track t).state = .firstRec ∨ (s.track t).state = .overdub) ∧ (s.track t).rank ≤ 7

/-- R72: a HELD head records the take of its track, in FIRST_REC unless the mode is OVERDUB; every RECORDING layer has a
head, no two heads have one layer, and while a head is held one is NEWER. -/
def HeadsOk (s : State) : Prop :=
  (∀ h, ∀ x ∈ s.head h, (s.track x.track).take = some x.layer ∧ (x.mode ≠ .overdub → (s.track x.track).state = .firstRec)) ∧
    (∀ l, (s.layer l).state = .recording → ∃ h, ∃ x ∈ s.head h, x.layer = l) ∧
    (∀ x ∈ s.head 0, ∀ y ∈ s.head 1, x.layer ≠ y.layer) ∧
    ((s.head 0 ≠ none ∨ s.head 1 ≠ none) → newestHead s ≠ none)

/-- R144, R145, R149: a fold job has two different sources, marked, on the stack of its track, and a BUILDING result; the
paused flag goes with a job, and no advance is due while it is set (R135). -/
def FoldOk (s : State) : Prop :=
  (∀ j ∈ s.fold.job, j.a ≠ j.b ∧ j.a ∈ (s.track j.track).stack ∧ j.b ∈ (s.track j.track).stack ∧
      (s.layer j.a).folding = true ∧ (s.layer j.b).folding = true ∧ (s.layer j.result).state = .building ∧
      (s.layer j.result).track = some j.track) ∧
    (s.fold.job = none → s.budget.foldPaused = false) ∧ (s.fold.advanceDue = true → s.budget.foldPaused = false)

/-- R171, R177: a running LOAD fills a PREPARING layer. Until start-up is over the engine is STARTING; while it is, no
entry waits, every track is EMPTY, no LOAD runs, and a port holds only a request that is served then (R183 step 4). -/
def StartingOk (s : State) : Prop :=
  (∀ op ∈ s.store.running, ∀ l first total sum check, op.job = .load l first total sum check →
      (s.layer l).state = .preparing) ∧
    (s.store.phase ≠ .over → s.store.engine = .starting) ∧
    (s.store.engine = .starting → s.queue = [] ∧ (∀ t, (s.track t).state = .empty) ∧ loadRunning s = false ∧
      ∀ st i, (s.port st).executor = .holding i → servedStarting i = true)

/-- R127: the count of counted streams lies within the budget in force, which is 1 or more in every band (R124). -/
def CountOk (s : State) : Prop :=
  streamCount s ≤ s.budget.limit ∧ 1 ≤ s.budget.limit ∧ ∀ i, 1 ≤ s.budget.table.budgets.get i

/-- What R127's law rests on, and the law. -/
def RosterOk (s : State) : Prop := TracksOk s ∧ HeadsOk s ∧ FoldOk s ∧ StartingOk s ∧ CountOk s

/-- A store request other than ABORT STORE, and whether it erases or programs flash (R165). -/
def storeWrites : Instr → Option Bool
  | .erase .. | .save .. | .protect .. | .setStartup .. | .release .. => some true
  | .blankCheck .. | .load .. | .verify .. | .sum .. => some false
  | _ => none

/-- The first sector that a running ERASE or SAVE erases or programs. -/
def StoreJob.firstWritten : StoreJob → Option Nat
  | .erase first _ => some first
  | .save _ first .. => some first
  | _ => none

/-- R166, R168, R172: the floor is a sector number, and a running ERASE or SAVE stays at or above it. -/
def FloorOk (s : State) : Prop :=
  s.store.option.floor ≤ 1023 ∧
    ∀ op k, s.store.running = some op → op.job.firstWritten = some k → s.store.option.floor ≤ k

/-- A RELEASE runs. -/
def releasing (s : State) : Bool := s.store.running.any fun op => op.job.kind == .release

end Sys2Proof.Machine
end

