-- ==== Sys2Proof/Certificates/Slice0/Obligations.lean ====
section
/-! DEFINITION. The statements for the provers, one `def Obligations.<Name> : Prop` each. A request's completion is stated as
the equation of its own row: `holdReply st r t` is `t` with the reply `r` formed in the executor of port `st`, waiting for
REPLY_PLACED (log 8, log 9); `finish` makes a fold start attempt that the command asked for and forms a frame's pair once
nothing is due (log 5, log 29), and leaves a settled state as it is (SettledIsKept). `Taken` says when a request executes;
`Settled` is kept by every step (SettledIsKept). -/

open Sys2Proof Sys2Proof.Machine

/-! ### Steps and commands -/

/-- A step runs the command at the front of the queue on the queue's rest. On an empty queue the block idles (the
model's choice, log 2). -/
def Obligations.StepRunsFrontCommand : Prop :=
  (∀ (c : Instr) (rest : List Instr) (s : State), step { s with pending := c :: rest } = exec c { s with pending := rest }) ∧
  (∀ s : State, s.pending = [] → step s = .next s)

/-- No command stops: every one answers a next state, and leaves the commands that wait as they are. -/
def Obligations.EveryCommandAnswersNext : Prop :=
  ∀ (c : Instr) (s : State), ∃ t, exec c s = .next t ∧ t.pending = s.pending

/-- What ends a command changes nothing of a settled state (the model's choice, log 5, log 29). Nothing that a command
asked for is left over at any step. -/
def Obligations.SettledIsKept : Prop :=
  ((∀ s : State, Settled (finish s)) ∧ ∀ s : State, Settled s → finish s = s) ∧
  (∀ s t : State, Settled s → step s = .next t → Settled t)

/-! ### Reset values and invariants -/

/-- What the manual states of the machine after a POWER reset has ended: grid UNSET (R1) and GRID low (R4), tracks EMPTY
(R21), queue empty (R31), slots FREE (R50), heads FREE and pointer S3 (R72, R73), rings of silence (R77), free list
ascending (R93), gains, curve of sixteen slopes 1 and clips (R110, R115, R112), band FULL with no reading, the band table,
shed list and reserve empty (R123, R124), FT 8 (R141), windows CLOSED (R153), engine STARTING (R164), executors READY (R182),
event sets and masks empty, ATN_N high (R185, R186), cause POWER (R188). That State.reset is this instant is the model's
choice (log 13). -/
def Obligations.ResetGivesManualValues : Prop :=
  let s := State.reset
  s.grid.tempo = none ∧ s.grid.capb = 0 ∧ s.grid.capBpb = 4 ∧ s.grid.pref = 24000 ∧ s.grid.grace = 2400 ∧
    gridPin s = false ∧
    (∀ t, (s.track t).state = .empty ∧ (s.track t).stack = [] ∧ (s.track t).gain = 65536 ∧ (s.track t).pos = 0) ∧
    s.queue = [] ∧ (∀ l, (s.layer l).state = .free ∧ (s.layer l).extents = []) ∧ (∀ h, s.head h = none) ∧
    s.arbiter.pointer = 3 ∧ (∀ x, s.rings.get x = List.replicate 4096 0#32) ∧
    s.pool.free = List.range Config.blockCount ∧ s.pool.free.length = 8192 ∧
    s.pool.lowMark = 256 ∧ s.pool.belowMark = false ∧
    s.mixer.mainGain = 65536 ∧ s.mixer.cueGain = 65536 ∧ s.mixer.segLen = 16 ∧ (∀ i, s.mixer.slopes.get i = 1) ∧
    s.mixer.mainClips = 0 ∧ s.mixer.cueClips = 0 ∧ s.mixer.clocks = true ∧ s.budget.band = .full ∧
    s.budget.reading = none ∧ s.budget.table = ⟨1150, 1100, 1050, 20, #v[48, 32, 16, 8],
      #v[8388607, 7471104, 5931642, 4194304]⟩ ∧
    s.budget.limit = 48 ∧ s.budget.ceiling = 8388607 ∧ s.budget.shedList = [] ∧ s.budget.reserve = [] ∧
    s.fold.threshold = 8 ∧ s.fold.job = none ∧
    (∀ st, (s.window st).state = .closed ∧ (s.window st).holder = 0#32) ∧ s.store.engine = .starting ∧
    s.store.running = none ∧ s.store.last = none ∧ s.store.erased = [] ∧
    (∀ st, (s.port st).executor = .ready ∧ (s.port st).holder = none ∧ (s.port st).dropped = false) ∧
    (∀ st, s.attention.events.get st = 0#14 ∧ s.attention.masks.get st = 0#14 ∧ s.attention.lastDrop.get st = none ∧
      atnLow s st = false) ∧
    s.resets.cause = .power ∧ s.resets.inReset = false

/-- The invariants hold right after reset. -/
def Obligations.ResetHasInvariants : Prop :=
  MemoriesWf State.reset ∧ Settled State.reset ∧ QueueOk State.reset ∧ SettingsOk State.reset ∧ GridOk State.reset ∧
    HeldOk State.reset ∧ BlocksOk State.reset ∧ EnvelopesOk State.reset ∧ WindowsOk State.reset ∧ FloorOk State.reset

/-- Loop DRAM and keep flash keep their canonical form at every step. -/
def Obligations.MemoriesAreKept : Prop := ∀ s t : State, MemoriesWf s → step s = .next t → MemoriesWf t

/-- R31: at most one waiting entry for a track, so at most eight, and the list in order of remaining count. -/
def Obligations.QueueOrderIsKept : Prop :=
  ∀ s t : State, QueueOk s → step s = .next t → QueueOk t ∧ t.queue.length ≤ 8

/-- The settings and the grid record stay in the ranges of the manual, and an executor holds only a request that
passed the port's checks. -/
def Obligations.RangesAreKept : Prop :=
  ∀ s t : State, SettingsOk s ∧ GridOk s ∧ HeldOk s → step s = .next t → SettingsOk t ∧ GridOk t ∧ HeldOk t

/-- R91, R92: no DRAM block is lost and none has two owners: each of the 8,192 stands once, in the free list or in one
extent list. -/
def Obligations.BlocksAreConserved : Prop := ∀ s t : State, BlocksOk s → step s = .next t → BlocksOk t

/-! ### Resets and start-up -/

/-- A POWER, BROWNOUT or PIN reset puts the whole part at its reset values, samples the straps, and leaves loop DRAM as it
was; the flash too where no operation runs (R73, R93, R114, R176, R188, R190). The cause is that of the last reset, whatever
held the part before (the model's choice, log 12, log 47). -/
def Obligations.ColdResetClearsPart : Prop :=
  ∀ (i : Instr) (cause : ResetCause) (straps : Vector Strap 4) (left : FlashLeft) (s : State),
    (i = .powerReset straps left ∧ cause = .power) ∨ (i = .brownoutReset straps left ∧ cause = .brownout) ∨
      (i = .pinReset straps left ∧ cause = .pin) →
    ∃ t, exec i s = .next t ∧ t.grid = GridUnit.reset ∧ (∀ x, t.track x = Track.reset) ∧ t.queue = [] ∧
      (∀ l, t.layer l = Layer.free) ∧ (∀ h, t.head h = none) ∧ t.arbiter.pointer = 3 ∧
      (∀ st, t.arbiter.priorities.get st = 2 * (straps.get st).b.toNat + (straps.get st).a.toNat) ∧
      (∀ x, t.rings.get x = List.replicate Config.ringFrames 0#32) ∧ t.pool = Pool.reset ∧ t.dram = s.dram ∧
      t.mixer = Mixer.reset ∧ t.budget = { Budget.reset with sense := s.budget.sense } ∧ t.fold = FoldUnit.reset ∧
      (∀ st, t.window st = Window.reset) ∧ t.store.engine = .starting ∧ t.store.running = none ∧ t.store.last = none ∧
      t.store.erased = [] ∧ t.store.results = [] ∧ (s.store.running = none → t.flash = s.flash) ∧
      (∀ st, t.port st = { Port.reset with csLow := (s.port st).csLow }) ∧ t.attention = Attention.reset ∧
      t.resets.inReset = true ∧ t.resets.cause = cause ∧ t.pending = s.pending

/-- RESET_END: the clocks run, the cause is that of what held the part last (R188; which of two did is the command's operand,
log 12), and a port whose CS_N is low
begins a transaction with an EMPTY frame (R179); nothing else changes, and nothing at all outside a reset. -/
def Obligations.ResetEndStartsPart : Prop :=
  ∀ (d : Bool) (s : State),
    (s.resets.inReset = false → exec (.resetEnd d) s = .next s) ∧
    (s.resets.inReset = true → exec (.resetEnd d) s = .next { s with
      mixer := { s.mixer with clocks := true }
      ports := s.ports.map fun p =>
        if p.csLow then { p with rx := .receiving [], out := some ⟨0x02#8, []⟩, outHeld := false } else p
      resets := ⟨if s.resets.pinHolds && s.resets.detectorHolds then (if d then .brownout else .pin) else s.resets.cause,
        false, false, false⟩ })

/-- STARTUP on an option record that is invalid, or valid with an empty list: the copy and OPTION_INVALID as R172 says, an
empty report, and the engine IDLE. With a startup list: each entry in list order, each on the state that those before it
left, one result for each, and the engine STARTING until the boundary if one is DONE, IDLE else; the flash and the ports
stay (R177 steps 2, 3 and 5). One entry: a header check that fails (R170) takes nothing; an image that passes them and
whose words and sample sum add up to 0 (R171) ends DONE with a PREPARING layer of the header's fields in the track's
prepared field, its blocks from the head of the free list, its words those of the image narrowed to samples (the model's
reading, log 35), the grid set if it was UNSET; any other sum ends with CHECK_FAIL, the slot FREE, the blocks given back and no
prepared layer. -/
def Obligations.StartupReadsRecordAndImages : Prop :=
  (∀ s : State, s.store.engine = .starting → s.store.running = none → s.store.phase = .waiting →
       s.resets.inReset = false →
       (readOption s = none → exec .startup s = .next (finish { s with store := { s.store with
         option := ⟨1023, false, false, []⟩, optionInvalid := true, results := [], phase := .over, engine := .idle } })) ∧
       ∀ o, readOption s = some o → o.list = [] → exec .startup s = .next (finish { s with store := { s.store with
         option := o, optionInvalid := false, results := [], phase := .over, engine := .idle } })) ∧
  (∀ (s : State) (o : OptionCopy), s.store.engine = .starting → s.store.running = none → s.store.phase = .waiting →
       s.resets.inReset = false → readOption s = some o →
       ∃ t u rs, exec .startup s = .next t ∧
         startupEntries o.list { s with store := { s.store with option := o, optionInvalid := false } } = (rs, u) ∧
         rs.map Prod.fst = o.list ∧ t.store.results = rs ∧ t.store.option = o ∧ t.store.optionInvalid = false ∧
         (.done ∈ rs.map Prod.snd → t.store.engine = .starting ∧
           t = finish { u with store := { u.store with results := rs, phase := .loaded } }) ∧
         (.done ∉ rs.map Prod.snd → t.store.engine = .idle ∧
           t = finish { u with store := { u.store with results := rs, phase := .over, engine := .idle } }) ∧
         t.flash = s.flash ∧ t.ports = s.ports) ∧
  (∀ (e : TrackId × Nat) (rest : List (TrackId × Nat)) (s : State),
       startupEntries (e :: rest) s = ((e, (startupEntry e s).1) :: (startupEntries rest (startupEntry e s).2).1,
         (startupEntries rest (startupEntry e s).2).2)) ∧
  (∀ (x : TrackId) (k : Nat) (s : State),
       (∀ r, loadCheck s k x = .error r → startupEntry (x, k) s = (r, s)) ∧
       ∀ h l, loadCheck s k x = .ok (h, l) → s.fold.job = none → MemoriesWf s → BlocksOk s →
         let n := (h.length + 4095) / 4096
         let total := (List.range h.length).foldl (fun acc i => acc + flashWord s k (16 + i)) 0#32
         let r := startupEntry (x, k) s
         (total + h.sum = 0#32 → r.1 = .done ∧ (r.2.track x).prepared = some l ∧
           { r.2.layer l with extents := [] } =
             { Layer.free with state := .preparing, track := some x, origin := some .loaded, length := h.length,
                               offset := h.offset, spanStart := h.spanStart, spanLen := h.spanLen, gain := h.gain,
                               pinned := h.pinned == 1 } ∧
           (r.2.layer l).blocks = s.pool.free.take n ∧ r.2.pool.free = s.pool.free.drop n ∧
           (∀ i, i < h.length → layerWord r.2 l i = narrowWord (flashWord s k (16 + i))) ∧
           (s.grid.tempo = none → r.2.grid.tempo = some ⟨h.fpb, h.bpb, h.bars, 0, 0, 0⟩) ∧
           (s.grid.tempo ≠ none → r.2.grid = s.grid)) ∧
         (total + h.sum ≠ 0#32 → r.1 = .checkFail ∧ (r.2.track x).prepared = none ∧ r.2.layer l = Layer.free ∧
           r.2.pool.free = s.pool.free.drop n ++ s.pool.free.take n) ∧
         r.2.flash = s.flash ∧ (∀ m, m ≠ l → r.2.layer m = s.layer m) ∧ ∀ y, y ≠ x → (r.2.track y).stack = (s.track y).stack)

/-- STARTUP_COMMIT for one loaded track: the grid restarts at position 0 with BEAT, BAR and CYCLE to all stations, the
track becomes MUTED with E_track 0, its loop set by the layer, the layer is LIVE on its stack, and the engine is IDLE
(R177 steps 4 and 5, R61, R120). -/
def Obligations.StartupCommitMutesTrack : Prop :=
  ∀ (s : State) (g : Tempo) (x : TrackId) (l : LayerId), s.store.phase = .commitDue → s.grid.tempo = some g →
    (s.track x).prepared = some l → (s.track x).redo = [] → (s.track x).stack = [] →
    (∀ u, u ≠ x → (s.track u).prepared = none) →
    ∃ t, exec .startupCommit s = .next t ∧ t.grid.tempo = some { g with bar := 0, beat := 0, f := 0 } ∧
      (t.track x).state = .muted ∧ (t.track x).env = 0 ∧ (t.track x).tlf = (s.layer l).length ∧
      (t.track x).bars = (s.layer l).length / (g.bpb * g.fpb) ∧ (t.track x).pos = 0 ∧ (t.track x).prepared = none ∧
      (t.track x).stack = [l] ∧ (t.layer l).state = .live ∧ t.store.engine = .idle ∧ t.store.phase = .over ∧
      (∀ st, t.attention.events.get st &&& 0x7#14 = 0x7#14) ∧ t.dram = s.dram ∧ t.flash = s.flash ∧
      (∀ u, u ≠ x → (t.track u).stack = (s.track u).stack ∧ (t.track u).state = (s.track u).state)

/-! ### Station ports -/

/-- CS_FALL: the frame fixed for the transaction follows the table of R181: PENDING while the executor is WORKING,
else the holder's reply if there is one, else EMPTY. Only that port changes; a port already low, or in a reset, fixes
none. CS_RISE: the transaction ends and what was gathered is discarded; executor, holder and dropped mark stay (R180).
REPLY_DELIVERED: the reply holder is emptied if the frame was its reply, and only then (R181). -/
def Obligations.TransactionEdgesMovePort : Prop :=
  (∀ (st : Station) (s : State),
       let p := s.port st
       (p.csLow = true → exec (.csFall st) s = .next (s.setPort st p)) ∧
       (p.csLow = false → s.resets.inReset = true → exec (.csFall st) s = .next (s.setPort st { p with csLow := true })) ∧
       (p.csLow = false → s.resets.inReset = false → p.executor ≠ .ready →
         exec (.csFall st) s =
           .next (s.setPort st { p with csLow := true, rx := .receiving [], out := some ⟨0x03#8, []⟩, outHeld := false })) ∧
       (p.csLow = false → s.resets.inReset = false → p.executor = .ready → p.holder = none →
         exec (.csFall st) s =
           .next (s.setPort st { p with csLow := true, rx := .receiving [], out := some ⟨0x02#8, []⟩, outHeld := false })) ∧
       ∀ f, p.csLow = false → s.resets.inReset = false → p.executor = .ready → p.holder = some f →
         exec (.csFall st) s =
           .next (s.setPort st { p with csLow := true, rx := .receiving [], out := some f, outHeld := true })) ∧
  (∀ (st : Station) (s : State),
       exec (.csRise st) s = .next (s.setPort st { s.port st with csLow := false, rx := .idle, out := none, outHeld := false })) ∧
  (∀ (st : Station) (s : State),
       ((s.port st).outHeld = true →
         exec (.replyDelivered st) s = .next (s.setPort st { s.port st with holder := none, outHeld := false })) ∧
       ((s.port st).outHeld = false → exec (.replyDelivered st) s = .next (s.setPort st (s.port st))))

/-- PACKET_RECEIVED, the first of a transaction, at a READY executor: a request that passes the checks is held, one
that fails waits with its reply code; at a WORKING executor it is discarded and the dropped mark is set (R182, R183). Bytes
that a station means as filler are a packet like any other once 3 + n have come (the model's reading of R180, log 46). -/
def Obligations.PacketEntersExecutor : Prop :=
  ∀ (st : Station) (kind len check : Byte) (body : List Byte) (s : State),
    (Instr.packetReceived st kind len body check).wf = true → s.resets.inReset = false →
    (s.port st).rx = .receiving [] →
    let p := { s.port st with rx := RxState.receiving (kind :: len :: (body ++ [check])) }
    ((s.port st).executor ≠ .ready →
      exec (.packetReceived st kind len body check) s = .next (s.setPort st { p with dropped := true })) ∧
    (∀ i, (s.port st).executor = .ready → packetCheck s st kind len body check = .ok i →
      exec (.packetReceived st kind len body check) s = .next (s.setPort st { p with executor := .holding i })) ∧
    ∀ c, (s.port st).executor = .ready → packetCheck s st kind len body check = .error c →
      exec (.packetReceived st kind len body check) s = .next (s.setPort st { p with executor := .answered ⟨c, []⟩ })

/-- R183, the order of the checks: the check byte, the kind, the length, start-up, the fields. -/
def Obligations.PacketChecksInOrder : Prop :=
  ∀ (st : Station) (kind len check : Byte) (body : List Byte) (s : State),
    ((kind.toNat + len.toNat + (body.map BitVec.toNat).sum + check.toNat) % 256 ≠ 255 →
      packetCheck s st kind len body check = .error .badCheck) ∧
    ((kind.toNat + len.toNat + (body.map BitVec.toNat).sum + check.toNat) % 256 = 255 →
      (parseBody st kind.toNat body = none → packetCheck s st kind len body check = .error .badKind) ∧
      (parseBody st kind.toNat body = some none → packetCheck s st kind len body check = .error .badLength) ∧
      ∀ i, parseBody st kind.toNat body = some (some i) → lengthOk i = true →
        (s.store.engine = .starting → servedStarting i = false →
          packetCheck s st kind len body check = .error .starting) ∧
        ((s.store.engine ≠ .starting ∨ servedStarting i = true) →
          (fieldsOk i = false → packetCheck s st kind len body check = .error .param) ∧
          (fieldsOk i = true → packetCheck s st kind len body check = .ok i)))

/-- REPLY_PLACED, of a reply that waits: code in the low seven bits and the dropped mark in bit 7, body as formed,
mark cleared, executor READY (R184; that the mark is taken as the reply is placed is the model's reading, log 44). A READY
executor places nothing (the model's choice, log 9). A reply frame is status,
length, body and check byte, and its bytes sum to 255 modulo 256 (R180, R191); every outbound byte of the transaction after
it is 0x00 (R181). -/
def Obligations.PlacedReplyCarriesMark : Prop :=
  (∀ (st : Station) (s : State), s.resets.inReset = false →
       ((s.port st).executor = .ready → exec (.replyPlaced st) s = .next s) ∧
       ∀ r, (s.port st).executor = .answered r →
         ∃ f : Frame, f.status.getLsbD 7 = (s.port st).dropped ∧ f.status &&& 0x7F#8 = r.code.byte ∧ f.body = r.body ∧
           exec (.replyPlaced st) s = .next (s.setPort st { s.port st with
             executor := .ready, holder := some f, dropped := false, outHeld := false })) ∧
  (∀ f : Frame, ((frameBytes f).map BitVec.toNat).sum % 256 = 255) ∧
  (∀ (p : Port) (f : Frame), p.out = some f →
       outboundByte p 0 = some f.status ∧ outboundByte p 1 = some (BitVec.ofNat 8 f.body.length) ∧
       (∀ k, k < f.body.length → outboundByte p (2 + k) = f.body[k]?) ∧
       outboundByte p (2 + f.body.length) = (frameBytes f).getLast? ∧
       ∀ k, 3 + f.body.length ≤ k → outboundByte p k = some 0x00#8)

/-- REPLY_PLACED of a held request does what the request's own row does, with the reply placed (R182; log 9). -/
def Obligations.PlacingServesHeldRequest : Prop :=
  ∀ (i : Instr) (st : Station) (s : State), i ≠ .restart st → requester i = some st →
    (s.port st).executor = .holding i → Taken i st s →
    ∃ r u, exec i s = .next (finish (holdReply st r u)) ∧ exec (.replyPlaced st) s = .next (finish (placeReply st r u))

/-! ### Requests, all of them -/

/-- R183: a request whose list is too long or too short, that comes during start-up, or whose fields are out of range
is answered with the code of the first check that fails, and has no other effect. R182: a request that finds its
executor WORKING is discarded, and only the dropped mark is set. -/
def Obligations.TurnedAwayRequestsDoNothing : Prop :=
  (∀ (i : Instr) (st : Station) (s : State) (c : Code), requester i = some st → s.resets.inReset = false →
       canTake (s.port st) i = true → requestCheck s i = some c →
       exec i s = .next (finish (holdReply st ⟨c, []⟩ s))) ∧
  (∀ (i : Instr) (st : Station) (s : State), requester i = some st → s.resets.inReset = false →
       canTake (s.port st) i = false → exec i s = .next (s.setPort st { s.port st with dropped := true }))

/-! ### Reads -/

/-- NOP is answered OK and has no effect (R183); READ IDENT gives vendor 0x0D1C, part 0x0448, revision 1, 8,192
blocks, 1,024 sectors, the reset cause and the four strap priorities (R188). READ GRID (R5): the grid record and the
four capture settings; the grid fields read 0 while UNSET. -/
def Obligations.NopIdentAndGridAnswer : Prop :=
  (∀ (st : Station) (s : State), Settled s →
       (Taken (.nop st) st s → exec (.nop st) s = .next (holdReply st ⟨.ok, []⟩ s)) ∧
       (Taken (.readIdent st) st s → exec (.readIdent st) s = .next (holdReply st ⟨.ok,
         [0x1C#8, 0x0D#8, 0x48#8, 0x04#8, 0x01#8, 0x00#8, 0x20#8, 0x00#8, 0x04#8, s.resets.cause.byte,
           BitVec.ofNat 8 (s.arbiter.priorities.get 0), BitVec.ofNat 8 (s.arbiter.priorities.get 1),
           BitVec.ofNat 8 (s.arbiter.priorities.get 2), BitVec.ofNat 8 (s.arbiter.priorities.get 3)]⟩ s))) ∧
  (∀ (st : Station) (s : State), Settled s → Taken (.readGrid st) st s →
       let settings := leBytes 1 s.grid.capb ++ leBytes 1 s.grid.capBpb ++ leBytes 2 s.grid.pref ++ leBytes 2 s.grid.grace
       (s.grid.tempo = none → exec (.readGrid st) s = .next (holdReply st ⟨.ok, List.replicate 21 0#8 ++ settings⟩ s)) ∧
       ∀ g, s.grid.tempo = some g → exec (.readGrid st) s = .next (holdReply st ⟨.ok,
         leBytes 1 1 ++ leBytes 2 g.fpb ++ leBytes 1 g.bpb ++ leBytes 1 g.cb ++ leBytes 4 (g.bpb * g.fpb) ++
           leBytes 4 (g.cb * (g.bpb * g.fpb)) ++ leBytes 1 g.bar ++ leBytes 1 g.beat ++ leBytes 2 g.f ++
           leBytes 4 ((g.bar * g.bpb + g.beat) * g.fpb + g.f) ++ settings⟩ s))

/-- READ TRACK (R24): the track record, its waiting entry and the fade curve, in the order of §11.6 (R191). READ LAYER (R71):
the layer record, in the order of §11.6 (R191); the place index and a FREE slot's origin code hold whatever values the manual
leaves open (log 26). -/
def Obligations.ReadTrackAndLayerReportRecords : Prop :=
  (∀ (st : Station) (n : Byte) (s : State), Settled s → Taken (.readTrack st n) st s →
       let x := s.track (trackOf n)
       exec (.readTrack st n) s = .next (holdReply st ⟨.ok,
         [x.state.byte] ++ leBytes 1 x.bars ++ leBytes 4 x.tlf ++ leBytes 4 x.pos ++ leBytes 3 x.gain ++ [x.bus.byte] ++
           leBytes 1 x.rank ++ [x.guards.byte] ++ idList x.stack ++ idList x.redo ++
           [orNone x.take, orNone x.takeStation, orNone x.prepared] ++ leBytes 3 x.env ++
           [boolByte x.fade.isSome, boolByte x.foldWanted] ++ entryBytes (waiting s (trackOf n)) ++ leBytes 2 s.mixer.segLen ++
           s.mixer.slopes.toList.flatMap (leBytes 1)⟩ s)) ∧
  (∀ (st : Station) (n : Byte) (s : State), Settled s → Taken (.readLayer st n) st s →
       let x := s.layer (layerOf n)
       exec (.readLayer st n) s = .next (holdReply st ⟨.ok,
         [x.state.byte, orNone x.track, (layerPlace s (layerOf n)).1, (layerPlace s (layerOf n)).2, originByte x.origin] ++
           leBytes 4 x.length ++ leBytes 4 x.offset ++ leBytes 4 x.spanStart ++ leBytes 4 x.spanLen ++ leBytes 3 x.gain ++
           [boolByte x.pinned, boolByte x.shed, boolByte x.folding] ++ leBytes 3 x.env ++ fadeBytes x.fade ++
           leBytes 2 x.extents.length ++ leBytes 2 (x.extents.filter Extent.blank).length⟩ s))

/-- READ SUPPLY (R140): reading, band, budget and ceiling in force, stream count, fold-paused flag, band table, FT,
shed list, fade reserve, and the pool's counts (R103). READ STORE (R178): engine state, running operation, last
result, option copy, OPTION_INVALID and one result byte for each entry of the copy's list (R191): what start-up recorded for
that entry, and for an entry it has not loaded a byte that is left open (log 31, the model's reading). -/
def Obligations.ReadSupplyAndStoreReport : Prop :=
  (∀ (st : Station) (s : State), Settled s → Taken (.readSupply st) st s →
       let b := s.budget
       exec (.readSupply st) s = .next (holdReply st ⟨.ok,
         readingBytes b.reading ++ [b.band.byte] ++ leBytes 1 b.limit ++ leBytes 3 b.ceiling ++ leBytes 1 (streamCount s) ++
           [boolByte b.foldPaused] ++ tableBytes b.table ++ leBytes 1 s.fold.threshold ++ idList b.shedList ++
           idList b.reserve ++ leBytes 2 s.pool.free.length ++ leBytes 2 s.pool.lowMark ++ [boolByte s.pool.belowMark]⟩ s)) ∧
  (∀ (st : Station) (s : State), Settled s → Taken (.readStore st) st s →
       let x := s.store
       exec (.readStore st) s = .next (holdReply st ⟨.ok,
         [x.engine.byte] ++ runningBytes x.running ++ lastBytes x.last ++ optionBytes x.option ++
           [boolByte x.optionInvalid] ++ x.option.list.zipIdx.map fun e =>
             match x.results.lookup e.1 with
             | some r => r.byte
             | none => Config.unreportedResult e.2⟩ s))

/-- READ EVENTS returns its own station's event set and last-drop record and then empties that set alone (R187). READ
CLIPS returns both clip counters and both bus gains and then sets both counters to 0 (R113). -/
def Obligations.ReadEventsAndClipsClear : Prop :=
  (∀ (st : Station) (s : State), Settled s → Taken (.readEvents st) st s →
       exec (.readEvents st) s = .next (holdReply st
         ⟨.ok, leBytes 2 (s.attention.events.get st).toNat ++ dropBytes (s.attention.lastDrop.get st)⟩
         { s with attention := { s.attention with events := s.attention.events.set st.val 0#14 st.isLt } })) ∧
  (∀ (st : Station) (s : State), Settled s → Taken (.readClips st) st s →
       exec (.readClips st) s = .next (holdReply st
         ⟨.ok, leBytes 2 s.mixer.mainClips ++ leBytes 2 s.mixer.cueClips ++ leBytes 3 s.mixer.mainGain ++
           leBytes 3 s.mixer.cueGain⟩
         { s with mixer := { s.mixer with mainClips := 0, cueClips := 0 } }))

/-! ### Settings -/

/-- SET LOW MARK (R102): the clamped value replaces the low mark, the reply is OK in every state of the pool, the
indicator takes the new comparison, and no MEMORY_LOW is raised; nothing else changes; while the indicator is set an
allocation raises nothing. -/
def Obligations.SetLowMarkSetsIndicator : Prop :=
  (∀ (st : Station) (m : BitVec 16) (s : State), Settled s → Taken (.setLowMark st m) st s →
    exec (.setLowMark st m) s = .next (holdReply st ⟨.ok, []⟩ { s with pool := { s.pool with
      lowMark := min m.toNat 8192, belowMark := decide (s.pool.free.length < min m.toNat 8192) } })) ∧
  ∀ (s t : State) (l : LayerId) (c : Nat), s.pool.belowMark = true → allocate l c s = some t →
    t.attention = s.attention ∧ t.pool.belowMark = true

/-- SET FOLD (R141): 0 stays, 1 and 2 become 3, above 12 becomes 12; FT is replaced at once, no flag and no job
changes; FT is 8 after POWER, BROWNOUT and PIN reset, RESTART keeps it (no other port holding a request, a SET FOLD perhaps,
that executes first), and READ SUPPLY returns it after the band table. While start-up runs R183 answers STARTING in place of OK
(log 49). -/
def Obligations.SetFoldClampsThreshold : Prop :=
  (∀ (st : Station) (n : BitVec 16) (s : State), Settled s → Taken (.setFold st n) st s →
    exec (.setFold st n) s = .next (holdReply st ⟨.ok, []⟩ { s with fold := { s.fold with
      threshold := if n = 0#16 then 0 else max 3 (min n.toNat 12) } })) ∧
  (∀ straps left s, (∃ t, exec (.powerReset straps left) s = .next t ∧ t.fold.threshold = 8) ∧
    (∃ t, exec (.brownoutReset straps left) s = .next t ∧ t.fold.threshold = 8) ∧
    ∃ t, exec (.pinReset straps left) s = .next t ∧ t.fold.threshold = 8) ∧
  (∀ st s, Taken (.restart st) st s → (∀ x, x ≠ st → ∀ i, (s.port x).executor ≠ .holding i) →
    ∃ t, exec (.restart st) s = .next t ∧ t.fold.threshold = s.fold.threshold) ∧
  ∀ st s, Settled s → Taken (.readSupply st) st s → ∃ pre post, exec (.readSupply st) s = .next (holdReply st
    ⟨.ok, pre ++ tableBytes s.budget.table ++ leBytes 1 s.fold.threshold ++ post⟩ s)

/-- SET BUS (R110): both gains clamped to 0..65,536 and replaced; the pair of the frame in progress stays. SET CAPTURE
(R8), SET FADE (R115), SET ROUTING (R186): the settings replaced, clamped where the manual clamps. SET BANDS (R124):
the table replaced, budgets clamped to 1..48 and ceilings to 1..8,388,607; the band and the budget and ceiling in
force stay until the boundary that follows. While start-up runs R183 answers STARTING in place of OK (log 49). -/
def Obligations.SettingsAreReplaced : Prop :=
  (∀ (st : Station) (m c : BitVec 24) (s : State), Settled s → Taken (.setBus st m c) st s →
       exec (.setBus st m c) s = .next (holdReply st ⟨.ok, []⟩ { s with mixer := { s.mixer with
         mainGain := min m.toNat 65536, cueGain := min c.toNat 65536 } })) ∧
  (∀ (st : Station) (s : State), Settled s →
       (∀ (capb capBpb : Byte) (pref grace : BitVec 16), Taken (.setCapture st capb capBpb pref grace) st s →
         exec (.setCapture st capb capBpb pref grace) s = .next (holdReply st ⟨.ok, []⟩ { s with grid := { s.grid with
           capb := capb.toNat, capBpb := capBpb.toNat, pref := max 12000 (min pref.toNat 48000),
           grace := min grace.toNat 4095 } })) ∧
       (∀ (n : BitVec 16) (slopes : Vector Byte 16), Taken (.setFade st n slopes) st s →
         exec (.setFade st n slopes) s = .next (holdReply st ⟨.ok, []⟩ { s with mixer := { s.mixer with
           segLen := max 16 (min n.toNat 1024), slopes := slopes.map fun m => min m.toNat 15 } })) ∧
       ∀ (n : Byte) (mask : BitVec 16), Taken (.setRouting st n mask) st s →
         exec (.setRouting st n mask) s = .next (holdReply st ⟨.ok, []⟩ { s with attention := { s.attention with
           masks := s.attention.masks.set (stationOf n).val (mask.truncate 14) (stationOf n).isLt } })) ∧
  (∀ (st : Station) (ta tb tc hy : BitVec 16) (budgets : Vector (BitVec 16) 4) (ceilings : Vector (BitVec 24) 4) (s : State),
       Settled s → Taken (.setBands st ta tb tc hy budgets ceilings) st s →
       exec (.setBands st ta tb tc hy budgets ceilings) s = .next (holdReply st ⟨.ok, []⟩ { s with budget := { s.budget with
         table := { ta := ta.toNat, tb := tb.toNat, tc := tc.toNat, hy := hy.toNat,
                    budgets := budgets.map fun b => max 1 (min b.toNat 48),
                    ceilings := ceilings.map fun c => max 1 (min c.toNat 8388607) }
         tableNew := true } }))

/-! ### Grid requests -/

/-- SET GRID while the grid is UNSET (R6, R3): the grid is SET at position 0 and BEAT, BAR and CYCLE go to all stations; with
a track in use, a prepared layer or a LOAD running SET GRID and CLEAR GRID are refused with GRID_IN_USE and nothing changes.
SET GRID and CLEAR GRID on a SET grid (R6, R7, R42): every waiting entry is removed and told with reason GRID, front first;
then the new grid starts, or the grid is UNSET. CLEAR GRID on an UNSET grid leaves the entries. -/
def Obligations.GridRequestsStartAndClear : Prop :=
  (∀ (st : Station) (fpb : BitVec 16) (bpb cb : Byte) (s : State), Taken (.setGrid st fpb bpb cb) st s →
       (gridInUse s = true → exec (.setGrid st fpb bpb cb) s = .next (finish (holdReply st ⟨.gridInUse, []⟩ s))) ∧
       (gridInUse s = false → s.grid.tempo = none → exec (.setGrid st fpb bpb cb) s = .next (finish (holdReply st ⟨.ok, []⟩
         { s with
           grid := { s.grid with tempo := some ⟨fpb.toNat, bpb.toNat, cb.toNat, 0, 0, 0⟩, beatDue := false }
           attention := { s.attention with events := s.attention.events.map (· ||| 0x7#14) } })))) ∧
  (∀ (st : Station) (s : State), gridInUse s = false →
       let told := s.queue.foldl (fun s e => tellDrop e.station e.track e.action .grid s) { s with queue := [] }
       (∀ fpb bpb cb, Taken (.setGrid st fpb bpb cb) st s → s.grid.tempo ≠ none →
         exec (.setGrid st fpb bpb cb) s = .next (finish (holdReply st ⟨.ok, []⟩
           (enterGrid ⟨fpb.toNat, bpb.toNat, cb.toNat, 0, 0, 0⟩ told)))) ∧
       (Taken (.clearGrid st) st s → s.grid.tempo ≠ none → exec (.clearGrid st) s = .next (finish (holdReply st ⟨.ok, []⟩
         { told with grid := { told.grid with tempo := none, beatDue := false } }))) ∧
       (Taken (.clearGrid st) st s → s.grid.tempo = none →
         exec (.clearGrid st) s = .next (finish (holdReply st ⟨.ok, []⟩ s)))) ∧
  (∀ (st : Station) (s : State), gridInUse s = true → Taken (.clearGrid st) st s →
       exec (.clearGrid st) s = .next (finish (holdReply st ⟨.gridInUse, []⟩ s))) ∧
  (∀ s : State, gridInUse s = true ↔
       (∃ t, (s.track t).state ≠ .empty ∨ (s.track t).prepared ≠ none) ∨
         ∃ op, s.store.running = some op ∧ op.job.kind = .load)

/-- R2: the cycle index rises by 1 at an advance and returns to 0 after CL − 1. BEAT_BOUNDARY at a position with f = 0 (R2,
R135, R138, R143): BEAT, with BAR at the first beat and CYCLE at the first bar; at BAR a paused fold resumes if it fits, shed
layers are restored and a fold start is tried, the last two in either order. Restore (R138): the layer at the end of the shed
list, with demand 0 on a silent MUTED track and 1 else, if it fits leaves the list and the reserve, its mark clears and it
fades in from where it stands, and the next one is tried; at the first that does not fit nothing more happens. Fold start
(R144), at the lowest flagged track: a stale flag is cleared and the next track looked at; with band FULL or TRIM, room for 3,
a FREE slot and the blocks, the two bottom layers get the folding mark and the result is BUILDING in the slot with blank
blocks from the head of the free list; if any of these fails nothing is taken and the flag stays. Resume (R135): a paused job
with band FULL or TRIM and room for 3. -/
def Obligations.AdvanceAndBeatEvents : Prop :=
  (∀ (s : State) (g : Tempo), GridOk s → s.grid.tempo = some g →
       g.advance.index = (if g.index + 1 = g.cycleLen then 0 else g.index + 1) ∧ g.index < g.cycleLen) ∧
  (∀ (b : Bool) (g : Tempo) (s : State), s.grid.beatDue = true → s.grid.tempo = some g → g.f = 0 →
       let raised (m : BitVec 14) : State := { s with
         grid := { s.grid with beatDue := false }
         attention := { s.attention with events := s.attention.events.map (· ||| m) } }
       (g.beat ≠ 0 → exec (.beatBoundary b) s = .next (finish (raised 0x1#14))) ∧
       (g.beat = 0 →
         let u := resumeFold (raised (if g.bar = 0 then 0x7#14 else 0x3#14))
         exec (.beatBoundary b) s =
           .next (finish (if b then restoreShed (attemptFold u) else attemptFold (restoreShed u))))) ∧
  (∀ s : State, s.budget.shedList.Nodup →
       (s.budget.shedList = [] → restoreShed s = s) ∧
       ∀ ls l, s.budget.shedList = ls ++ [l] →
         let x := s.layer l
         let d := match x.track with
           | none => 1
           | some t => if (s.track t).state = .muted ∧ (s.track t).fade = none then 0 else 1
         (streamCount s + d ≤ s.budget.limit → restoreShed s = restoreShed { s.setLayer l { x with
             shed := false, fade := if x.env = 65536 then none else some ⟨x.env, 65536, 0, false, s.mixer.fadesDue⟩ } with
           budget := { s.budget with shedList := ls, reserve := s.budget.reserve.filter (· != l) } }) ∧
         (s.budget.limit < streamCount s + d → restoreShed s = s)) ∧
  (∀ (s : State) (t : TrackId), s.fold.job = none → (s.track t).foldWanted = true →
       (∀ u, u < t → (s.track u).foldWanted = false) →
       let tlf := (s.track t).tlf
       let n := (tlf + 4095) / 4096
       (s.fold.threshold = 0 ∨ (s.track t).stack.length < s.fold.threshold →
         attemptFold s = attemptFold (s.setTrack t { s.track t with foldWanted := false })) ∧
       ∀ a b rest, s.fold.threshold ≠ 0 → s.fold.threshold ≤ (s.track t).stack.length →
         (s.track t).stack = a :: b :: rest → a ≠ b → (s.layer a).state = .live → (s.layer b).state = .live →
         (s.budget.band = .lean ∨ s.budget.band = .reserve ∨ s.budget.limit < streamCount s + 3 ∨ freeSlot s = none ∨
           s.pool.free.length < n → attemptFold s = s) ∧
         ∀ r, s.budget.band = .full ∨ s.budget.band = .trim → streamCount s + 3 ≤ s.budget.limit → freeSlot s = some r →
           n ≤ s.pool.free.length →
           let u := attemptFold s
           u.fold.job = some ⟨t, a, b, r, 0⟩ ∧ (u.track t).foldWanted = false ∧
             u.layer a = { s.layer a with folding := true } ∧ u.layer b = { s.layer b with folding := true } ∧
             u.layer r = { Layer.free with
               state := .building, track := some t, origin := some .folded, length := tlf, spanLen := tlf,
               pinned := (s.layer a).pinned || (s.layer b).pinned, env := 65536,
               extents := (s.pool.free.take n).map fun k => ⟨k, true⟩ } ∧
             u.pool.free = s.pool.free.drop n ∧ (∀ m, m ≠ a → m ≠ b → m ≠ r → u.layer m = s.layer m) ∧ u.dram = s.dram) ∧
  (∀ s : State,
       let fits : Prop := s.fold.job ≠ none ∧ s.budget.foldPaused = true ∧ (s.budget.band = .full ∨ s.budget.band = .trim) ∧
         streamCount s + 3 ≤ s.budget.limit
       (fits → resumeFold s = { s with budget := { s.budget with foldPaused := false } }) ∧ (¬fits → resumeFold s = s))

/-! ### Track and queue requests -/

/-- ACT (R26, R33 to R36): a failed test of R26 gives its code and changes nothing; a request that passes joins the
list with the distance and backdate of the Grid Unit, merges into a waiting entry with the same action, or replaces
one with another, whose station is told REPLACED if it is not the requester. CANCEL (R37): the track's entry leaves
the list, its station is told CANCELLED if it is not the requester; with no entry the reply is STATE and nothing
changes. The tests of R26 in order: the guards of R30, the table of R27, the stack place of R27, the band. The place in the
list (R31): after every entry whose count is not greater. -/
def Obligations.ActAndCancelChangeQueue : Prop :=
  (∀ (st : Station) (n ab qb ss sc ch : Byte) (a : Action) (q : Quantize) (s : State),
       Taken (.act st n ab qb ss sc ch) st s → Action.ofByte ab = some a → Quantize.ofByte qb = some q →
       let t := trackOf n
       let chain : Bool := a == .stop && ch == 1#8
       let e : Entry := { track := t, action := a, quantize := q, station := st,
                          source := if isTakeStart a then some (sourceOf ss sc) else none, chain := chain,
                          remaining := (waitDistance s t a q).1, backdate := (waitDistance s t a q).2, retries := 0,
                          emptied := false }
       let rest := s.queue.filter fun x => x.track != t
       (∀ c, actionTest s t a chain = some c →
         exec (.act st n ab qb ss sc ch) s = .next (finish (holdReply st ⟨c, []⟩ s))) ∧
       (actionTest s t a chain = none →
         (waiting s t = none →
           exec (.act st n ab qb ss sc ch) s =
             .next (finish (holdReply st ⟨.ok, []⟩ { s with queue := insertEntry e s.queue }))) ∧
         ∀ old, waiting s t = some old →
           (old.action = a →
             exec (.act st n ab qb ss sc ch) s = .next (finish (holdReply st ⟨.merged, []⟩ s))) ∧
           (old.action ≠ a → old.station = st →
             exec (.act st n ab qb ss sc ch) s =
               .next (finish (holdReply st ⟨.ok, []⟩ { s with queue := insertEntry e rest }))) ∧
           (old.action ≠ a → old.station ≠ st →
             exec (.act st n ab qb ss sc ch) s =
               .next (finish (holdReply st ⟨.ok, []⟩
                 (tellDrop old.station t old.action .replaced { s with queue := insertEntry e rest })))))) ∧
  (∀ (st : Station) (n : Byte) (s : State), Taken (.cancel st n) st s →
       let t := trackOf n
       let left := { s with queue := s.queue.filter fun x => x.track != t }
       (waiting s t = none → exec (.cancel st n) s = .next (finish (holdReply st ⟨.state, []⟩ s))) ∧
       ∀ old, waiting s t = some old →
         (old.station = st → exec (.cancel st n) s = .next (finish (holdReply st ⟨.ok, []⟩ left))) ∧
         (old.station ≠ st → exec (.cancel st n) s =
           .next (finish (holdReply st ⟨.ok, []⟩ (tellDrop old.station t old.action .cancelled left))))) ∧
  (∀ (s : State) (t : TrackId) (a : Action) (chain : Bool),
       let x := s.track t
       let n := x.stack.length
       let guarded : Bool := (x.guards.noClear && a == .clear) || (x.guards.noUndo && (a == .undo || a == .redo)) ||
         (x.guards.noRecord && (a == .record || a == .overdub || a == .commit || chain))
       let held : Bool := x.prepared.any fun l => !loadFilling s l
       let loop : Bool := (a == .undo && decide (2 ≤ n)) || (a == .redo && x.redo != []) || (a == .commit && held) || a == .clear
       let take : Bool := a == .stop || a == .undo || a == .clear
       let valid : Bool := match x.state with
         | .empty => (a == .record && x.prepared == none) || (a == .commit && held)
         | .firstRec | .overdub => take
         | .playing => a == .overdub || a == .mute || loop
         | .muted => a == .unmute || loop
       let place : Bool := a == .overdub || (a == .commit && (x.state == .playing || x.state == .muted))
       actionTest s t a chain = if guarded then some .guarded else if !valid then some .state
         else if place && decide (12 ≤ n) then some .stackFull
         else if s.budget.band == .reserve && (a == .record || a == .overdub || chain) then some .lowSupply else none) ∧
  (∀ (s : State) (l : LayerId), loadFilling s l = true ↔
       ∃ op first total sum check, s.store.running = some op ∧ op.job = .load l first total sum check) ∧
  (∀ (e : Entry) (q : List Entry), insertEntry e q =
       q.takeWhile (fun x => decide (x.remaining ≤ e.remaining)) ++ e :: q.dropWhile fun x => decide (x.remaining ≤ e.remaining))

/-- R17, R18: an action that names no boundary, or comes while the grid is UNSET, waits 1 frame with no backdate; one
inside the grace of a boundary waits 1 frame with a backdate of e + 1; any other waits for the next boundary of its
kind. A STOP on a first take under a SET grid is R18's, a STOP of kind NOW too (the model's reading where R17's table meets
NOW first, log 36). The periods of R16: beat, bar and cycle of the grid index, the loop of a track that has one, the bar of
a track that has none. -/
def Obligations.WaitDistanceFollowsGrid : Prop :=
  (∀ (s : State) (t : TrackId) (a : Action) (q : Quantize),
    (s.grid.tempo = none → waitDistance s t a q = (1, 0)) ∧
    ∀ g, s.grid.tempo = some g →
      (a = .stop ∧ (s.track t).state = .firstRec →
        let l := (s.track t).pos
        let k := g.bpb * g.fpb
        (l < k → waitDistance s t a q = (k - l, 0)) ∧
        (k ≤ l → l % k ≤ s.grid.grace → waitDistance s t a q = (1, l % k + 1)) ∧
        (k ≤ l → s.grid.grace < l % k → waitDistance s t a q = (k - l % k, 0))) ∧
      (¬(a = .stop ∧ (s.track t).state = .firstRec) →
        (q = .now → waitDistance s t a q = (1, 0)) ∧
        (q ≠ .now →
          let e := (periodOf g (s.track t) q).1 % (periodOf g (s.track t) q).2
          (hasGrace a = true → e ≤ s.grid.grace → waitDistance s t a q = (1, e + 1)) ∧
          (hasGrace a = false ∨ s.grid.grace < e →
            waitDistance s t a q = ((periodOf g (s.track t) q).2 - e, 0))))) ∧
  (∀ (g : Tempo) (x : Track),
    let i := (g.bar * g.bpb + g.beat) * g.fpb + g.f
    periodOf g x .beat = (i, g.fpb) ∧ periodOf g x .bar = (i, g.bpb * g.fpb) ∧
      periodOf g x .cycle = (i, g.cb * (g.bpb * g.fpb)) ∧
      (x.state = .playing ∨ x.state = .overdub ∨ x.state = .muted → periodOf g x .loop = (x.pos, x.tlf)) ∧
      (x.state = .empty ∨ x.state = .firstRec → periodOf g x .loop = (i, g.bpb * g.fpb)))

/-- SET TRACK (R23): GUARDED under NO_EDIT; else gain clamped to 0..131,072, bus and rank replaced, in every track
state. UNGUARD (R29): BARRED under FIXED, the set unchanged; else every flag is removed and the reply is OK. -/
def Obligations.TrackSettingsAndUnguard : Prop :=
  (∀ (st : Station) (n : Byte) (gain : BitVec 24) (bus rank : Byte) (b : Bus) (s : State), Settled s →
       Taken (.setTrack st n gain bus rank) st s → Bus.ofByte bus = some b →
       let x := s.track (trackOf n)
       (x.guards.noEdit = true → exec (.setTrack st n gain bus rank) s = .next (holdReply st ⟨.guarded, []⟩ s)) ∧
       (x.guards.noEdit = false → exec (.setTrack st n gain bus rank) s = .next (holdReply st ⟨.ok, []⟩
         (s.setTrack (trackOf n) { x with gain := min gain.toNat 131072, bus := b, rank := rank.toNat })))) ∧
  (∀ (st : Station) (n : Byte) (s : State), Settled s → Taken (.unguard st n) st s →
       let x := s.track (trackOf n)
       (x.guards.fixed = true → exec (.unguard st n) s = .next (holdReply st ⟨.barred, []⟩ s)) ∧
       (x.guards.fixed = false → exec (.unguard st n) s = .next (holdReply st ⟨.ok, []⟩
         (s.setTrack (trackOf n) { x with guards := ⟨false, false, false, false, false⟩ }))))

/-- GUARD (R28): a track outside 0..7 is PARAM; else the flags carried are added, none is removed, the reply is OK in
every track state, FIXED or not, and nothing else changes, no waiting entry either. -/
def Obligations.GuardAddsFlags : Prop :=
  ∀ (st : Station) (n f : Byte) (s : State), Settled s →
    (s.resets.inReset = false → canTake (s.port st) (.guard st n f) = true → s.store.engine ≠ .starting → 8 ≤ n.toNat →
      exec (.guard st n f) s = .next (holdReply st ⟨.param, []⟩ s)) ∧
    (Taken (.guard st n f) st s →
      let x := s.track (trackOf n)
      exec (.guard st n f) s = .next (holdReply st ⟨.ok, []⟩ (s.setTrack (trackOf n) { x with guards :=
        { noClear := x.guards.noClear || f.getLsbD 0, noRecord := x.guards.noRecord || f.getLsbD 1,
          noUndo := x.guards.noUndo || f.getLsbD 2, noEdit := x.guards.noEdit || f.getLsbD 3,
          fixed := x.guards.fixed || f.getLsbD 4 } })))

/-! ### Layer requests -/

/-- SET LAYER (R67) and ROTATE (R68): the state test, then NO_EDIT of the layer's track, then gain and pin, or offset
(o + d) mod length; a change of a folding source's gain or offset restarts the fold at index 0 (R150). -/
def Obligations.LayerSettingsReplaced : Prop :=
  ∀ (st : Station) (n : Byte) (s : State), Settled s →
    let l := layerOf n
    let x := s.layer l
    let again (changed : Bool) (u : State) : State :=
      if changed && x.folding then { u with fold := { u.fold with job := u.fold.job.map fun j => { j with next := 0 } } }
      else u
    (∀ (gain : BitVec 24) (pin : Byte), Taken (.setLayer st n gain pin) st s →
      (x.state = .free ∨ x.state = .building →
        exec (.setLayer st n gain pin) s = .next (holdReply st ⟨.state, []⟩ s)) ∧
      (x.state ≠ .free → x.state ≠ .building → layerNoEdit s l = true →
        exec (.setLayer st n gain pin) s = .next (holdReply st ⟨.guarded, []⟩ s)) ∧
      (x.state ≠ .free → x.state ≠ .building → layerNoEdit s l = false →
        exec (.setLayer st n gain pin) s = .next (holdReply st ⟨.ok, []⟩
          (again (decide (min gain.toNat 131072 ≠ x.gain))
            (s.setLayer l { x with gain := min gain.toNat 131072, pinned := pin == 1#8 }))))) ∧
    ∀ d : Word, Taken (.rotate st n d) st s →
      let o := (((x.offset : Int) + d.toInt) % (x.length : Int)).toNat
      (x.state = .free ∨ x.state = .recording ∨ x.state = .building →
        exec (.rotate st n d) s = .next (holdReply st ⟨.state, []⟩ s)) ∧
      (x.state = .preparing ∨ x.state = .live ∨ x.state = .redo → layerNoEdit s l = true →
        exec (.rotate st n d) s = .next (holdReply st ⟨.guarded, []⟩ s)) ∧
      (x.state = .preparing ∨ x.state = .live ∨ x.state = .redo → layerNoEdit s l = false →
        exec (.rotate st n d) s = .next (holdReply st ⟨.ok, []⟩
          (again (decide (o ≠ x.offset)) (s.setLayer l { x with offset := o }))))

/-- CREATE LAYER (R69): the tests in order, the first that fails giving the code; a request that passes them takes the
lowest free slot, its blocks, and becomes the track's prepared layer; the reply carries the layer id. -/
def Obligations.CreateLayerTakesSlot : Prop :=
  ∀ (st : Station) (n bars : Byte) (s : State), Taken (.createLayer st n bars) st s →
    let t := trackOf n
    let x := s.track t
    let len := createLength s t bars
    let refused (c : Code) : Prop := exec (.createLayer st n bars) s = .next (finish (holdReply st ⟨c, []⟩ s))
    (s.grid.tempo = none → refused .gridUnset) ∧
    (s.grid.tempo ≠ none → x.guards.noEdit = true → refused .guarded) ∧
    (s.grid.tempo ≠ none → x.guards.noEdit = false → x.state = .firstRec ∨ x.prepared ≠ none → refused .state) ∧
    (s.grid.tempo ≠ none → x.guards.noEdit = false → x.state ≠ .firstRec → x.prepared = none →
      (x.state = .empty ∧ bars = 0#8 → refused .param) ∧
      (¬(x.state = .empty ∧ bars = 0#8) →
        (freeSlot s = none → refused .noLayer) ∧
        ∀ l, freeSlot s = some l →
          (s.pool.free.length < blocksFor len → refused .noMemory) ∧
          ∀ u, allocate l (blocksFor len) (s.setLayer l { Layer.free with
              state := .preparing, track := some t, origin := some .imported, length := len, spanLen := len }) = some u →
            exec (.createLayer st n bars) s = .next (finish (holdReply st ⟨.ok, [BitVec.ofNat 8 l.val]⟩
              (u.setTrack t { u.track t with prepared := some l })))))

/-! ### Windows -/

/-- OPEN WINDOW (R154): the layer's state, a LOAD that still fills it, the range; then the window is OPEN on ws..we
with the pointer at ws, and the holder keeps its word. -/
def Obligations.OpenWindowSetsRange : Prop :=
  ∀ (st : Station) (n : Byte) (ws we : Word) (d : Byte) (dir : Direction) (s : State), Settled s →
    Taken (.openWindow st n ws we d) st s → Direction.ofByte d = some dir →
    let l := layerOf n
    let x := s.layer l
    let answered (r : Reply) (u : State) : Prop := exec (.openWindow st n ws we d) s = .next (holdReply st r u)
    (x.state = .free ∨ x.state = .recording ∨ x.state = .building → answered ⟨.state, []⟩ s) ∧
    (x.state = .preparing ∧ loadFilling s l = true → answered ⟨.retry, []⟩ s) ∧
    ((x.state = .preparing ∧ loadFilling s l = false) ∨ x.state = .live ∨ x.state = .redo →
      (¬(ws.toNat ≤ we.toNat ∧ we.toNat < x.length) → answered ⟨.param, []⟩ s) ∧
      (ws.toNat ≤ we.toNat → we.toNat < x.length → answered ⟨.ok, leBytes 4 x.length⟩ (s.setWindow st
        { state := .opened, layer := some l, start := ws.toNat, stop := we.toNat, direction := dir,
          pointer := ws.toNat, holder := (s.window st).holder })))

/-- R155: the pointer steps by 1 and turns at the end of its range, in both directions, and never leaves it. READ DATA (R156):
NO_WINDOW and WINDOW_LOST change nothing; an OPEN window answers k words and the pointer. The first word is the holder, each
later one the layer's word at the pointer of the step before, a 24-bit sample sign-extended (R191), and the holder takes the
last one loaded. -/
def Obligations.ReadDataServesWords : Prop :=
  (∀ w : Window, w.start ≤ w.pointer → w.pointer ≤ w.stop →
       (w.start ≤ stepPointer w ∧ stepPointer w ≤ w.stop) ∧
       (w.direction = .forward → w.pointer ≠ w.stop → stepPointer w = w.pointer + 1) ∧
       (w.direction = .forward → w.pointer = w.stop → stepPointer w = w.start) ∧
       (w.direction = .reverse → w.pointer ≠ w.start → stepPointer w + 1 = w.pointer) ∧
       (w.direction = .reverse → w.pointer = w.start → stepPointer w = w.stop)) ∧
  (∀ (st : Station) (k : Byte) (s : State), Settled s → Taken (.readData st k) st s →
       let w := s.window st
       let at_ (i : Nat) : Nat := (Nat.repeat (fun v : Window => { v with pointer := stepPointer v }) i w).pointer
       (w.state = .closed → exec (.readData st k) s = .next (holdReply st ⟨.noWindow, []⟩ s)) ∧
       (w.state = .lost → exec (.readData st k) s = .next (holdReply st ⟨.windowLost, []⟩ s)) ∧
       ∀ l, w.state = .opened → w.layer = some l →
         let words := w.holder :: (List.range (k.toNat - 1)).map fun i => narrowWord (layerWord s l (at_ i))
         exec (.readData st k) s = .next (holdReply st
           ⟨.ok, words.flatMap (fun x => leBytes 4 x.toNat) ++ leBytes 4 (at_ k.toNat)⟩
           (s.setWindow st { w with pointer := at_ k.toNat, holder := narrowWord (layerWord s l (at_ (k.toNat - 1))) })))

/-- WRITE DATA (R157): the window, then NO_EDIT, then a folding layer; the words are stored one after another, each at
the pointer as a sign-extended sample, the pointer steps, and the reply carries it; the holder and every other part of the
state stay. -/
def Obligations.WriteDataStoresWords : Prop :=
  ∀ (st : Station) (ws : List Word) (s : State), Settled s → Taken (.writeData st ws) st s →
    let w := s.window st
    (w.state = .closed → exec (.writeData st ws) s = .next (holdReply st ⟨.noWindow, []⟩ s)) ∧
    (w.state = .lost → exec (.writeData st ws) s = .next (holdReply st ⟨.windowLost, []⟩ s)) ∧
    ∀ l, w.state = .opened → w.layer = some l →
      (layerNoEdit s l = true → exec (.writeData st ws) s = .next (holdReply st ⟨.guarded, []⟩ s)) ∧
      (layerNoEdit s l = false → (s.layer l).folding = true →
        exec (.writeData st ws) s = .next (holdReply st ⟨.retry, []⟩ s)) ∧
      (layerNoEdit s l = false → (s.layer l).folding = false →
        exec (.writeData st ws) s = .next (holdReply st ⟨.ok, leBytes 4 (writeSteps l ws w s).1.pointer⟩
          ((writeSteps l ws w s).2.setWindow st (writeSteps l ws w s).1)) ∧
        (∀ x, ws = [x] →
          writeSteps l ws w s = ({ w with pointer := stepPointer w }, storeLayerWord l w.pointer (narrowWord x) s)) ∧
        ∀ x rest v u, writeSteps l (x :: rest) v u =
          writeSteps l rest { v with pointer := stepPointer v } (storeLayerWord l v.pointer (narrowWord x) u))

/-- CLOSE WINDOW (R159): OK in every state of the window; it becomes CLOSED with no layer and the reset values of
range, direction and pointer, and the holder keeps its word; a window already CLOSED does not change; while CLOSED,
READ DATA and WRITE DATA answer NO_WINDOW and change nothing. -/
def Obligations.CloseWindowKeepsHolder : Prop :=
  ∀ (st : Station) (s : State), Settled s →
    (Taken (.closeWindow st) st s → exec (.closeWindow st) s = .next (holdReply st ⟨.ok, []⟩ (s.setWindow st
      { state := .closed, layer := none, start := 0, stop := 0, direction := .forward, pointer := 0,
        holder := (s.window st).holder }))) ∧
    (Taken (.closeWindow st) st s → s.window st = { Window.reset with holder := (s.window st).holder } →
      exec (.closeWindow st) s = .next (holdReply st ⟨.ok, []⟩ s)) ∧
    ((s.window st).state = .closed →
      (∀ k, Taken (.readData st k) st s → exec (.readData st k) s = .next (holdReply st ⟨.noWindow, []⟩ s)) ∧
      ∀ ws, Taken (.writeData st ws) st s → exec (.writeData st ws) s = .next (holdReply st ⟨.noWindow, []⟩ s))

/-- R94: an allocation takes blocks from the head of the free list, in order, to the end of one extent list, with
their blank marks set; with too few free it takes none. R98, R99: a word stored in a layer reads back there; every
other word of the layer, and every word of a layer that shares no block with it, reads as before, the words of a block
filled with silence included. -/
def Obligations.ExtentsAllocateAndStore : Prop :=
  (∀ (s : State) (l : LayerId) (c : Nat),
       (s.pool.free.length < c → allocate l c s = none) ∧
       (c ≤ s.pool.free.length → ∃ t, allocate l c s = some t ∧ t.pool.free = s.pool.free.drop c ∧
         (t.layer l).extents = (s.layer l).extents ++ (s.pool.free.take c).map (fun b => ⟨b, true⟩) ∧
         (∀ m, m ≠ l → t.layer m = s.layer m) ∧ t.tracks = s.tracks ∧ t.dram = s.dram)) ∧
  (∀ (s : State) (l m : LayerId) (i j : Nat) (w : Word), Memory.wf dramDefault s.dram →
       i / 4096 < (s.layer l).extents.length → (s.layer l).blocks.Nodup →
       (m ≠ l → ∀ b, b ∈ (s.layer l).blocks → b ∉ (s.layer m).blocks) →
       layerWord (storeLayerWord l i w s) l i = w ∧
         (m ≠ l ∨ j ≠ i → layerWord (storeLayerWord l i w s) m j = layerWord s m j))

/-! ### Store requests -/

/-- R164, R165: a store request that finds the engine BUSY is refused with STORE_BUSY, and in RESERVE one that erases
or programs flash is refused with LOW_SUPPLY; nothing else happens. -/
def Obligations.StoreRequestsTestEngine : Prop :=
  ∀ (i : Instr) (w : Bool) (st : Station) (s : State), storeWrites i = some w → requester i = some st → Settled s →
    Taken i st s →
    (s.store.engine = .busy → exec i s = .next (holdReply st ⟨.storeBusy, []⟩ s)) ∧
    (s.store.engine ≠ .busy → w = true → s.budget.band = .reserve →
      exec i s = .next (holdReply st ⟨.lowSupply, []⟩ s))

/-- ERASE (R166), BLANK CHECK and SUM (R167): RANGE, for ERASE then PROTECTED, and else OK with the engine BUSY, the
request its running operation and progress 0. -/
def Obligations.SectorOperationsStart : Prop :=
  ∀ (st : Station) (first count : BitVec 16) (s : State), Settled s → s.store.engine ≠ .busy →
    let last := first.toNat + count.toNat - 1
    let started (j : StoreJob) : State :=
      { s with store := { s.store with engine := .busy, running := some ⟨j, st, 0, false, false⟩ } }
    (Taken (.erase st first count) st s → s.budget.band ≠ .reserve →
      (1022 < last → exec (.erase st first count) s = .next (holdReply st ⟨.range, []⟩ s)) ∧
      (last ≤ 1022 → first.toNat < s.store.option.floor →
        exec (.erase st first count) s = .next (holdReply st ⟨.protected_, []⟩ s)) ∧
      (last ≤ 1022 → s.store.option.floor ≤ first.toNat →
        exec (.erase st first count) s = .next (holdReply st ⟨.ok, []⟩ (started (.erase first.toNat count.toNat))))) ∧
    (Taken (.blankCheck st first count) st s →
      (1022 < last → exec (.blankCheck st first count) s = .next (holdReply st ⟨.range, []⟩ s)) ∧
      (last ≤ 1022 → exec (.blankCheck st first count) s =
        .next (holdReply st ⟨.ok, []⟩ (started (.blankCheck first.toNat count.toNat))))) ∧
    (Taken (.sum st first count) st s →
      (1023 < last → exec (.sum st first count) s = .next (holdReply st ⟨.range, []⟩ s)) ∧
      (last ≤ 1023 → exec (.sum st first count) s =
        .next (holdReply st ⟨.ok, []⟩ (started (.sum first.toNat count.toNat 0#16)))))

/-- SAVE (R168) and VERIFY (R169): the layer's state, the range, for SAVE the floor and the erased marks; then OK with
the engine BUSY, and for SAVE the marks of the image's sectors clear and the header fixed (at the start: the model's reading,
log 19). -/
def Obligations.ImageOperationsStart : Prop :=
  ∀ (st : Station) (n : Byte) (first : BitVec 16) (s : State), Settled s → s.store.engine ≠ .busy →
    let l := layerOf n
    let len := (s.layer l).length
    let last := first.toNat + (16 + len + 16383) / 16384 - 1
    let sectors := List.range' first.toNat ((16 + len + 16383) / 16384)
    (Taken (.save st n first) st s → s.budget.band ≠ .reserve →
      (imageLayerOk s l = false → exec (.save st n first) s = .next (holdReply st ⟨.state, []⟩ s)) ∧
      (imageLayerOk s l = true → 1022 < last → exec (.save st n first) s = .next (holdReply st ⟨.range, []⟩ s)) ∧
      (imageLayerOk s l = true → last ≤ 1022 → first.toNat < s.store.option.floor →
        exec (.save st n first) s = .next (holdReply st ⟨.protected_, []⟩ s)) ∧
      (imageLayerOk s l = true → last ≤ 1022 → s.store.option.floor ≤ first.toNat →
        ((∃ k ∈ sectors, k ∉ s.store.erased) → exec (.save st n first) s = .next (holdReply st ⟨.notBlank, []⟩ s)) ∧
        ((∀ k ∈ sectors, k ∈ s.store.erased) →
          exec (.save st n first) s = .next (holdReply st ⟨.ok, []⟩ { s with store := { s.store with
            engine := .busy
            running := some ⟨.save l first.toNat (imageHeader s l 0#32) (16 + len) 0#32 (.pages 0) [] [], st, 0, false,
              false⟩
            erased := s.store.erased.filter fun k => decide (k < first.toNat) || decide (last < k) } })))) ∧
    (Taken (.verify st n first) st s →
      (imageLayerOk s l = false → exec (.verify st n first) s = .next (holdReply st ⟨.state, []⟩ s)) ∧
      (imageLayerOk s l = true → 1022 < last → exec (.verify st n first) s = .next (holdReply st ⟨.range, []⟩ s)) ∧
      (imageLayerOk s l = true → last ≤ 1022 →
        exec (.verify st n first) s = .next (holdReply st ⟨.ok, []⟩ { s with store := { s.store with
          engine := .busy, running := some ⟨.verify l first.toNat (16 + len) 0 0, st, 0, false, false⟩ } })))

/-- LOAD (R170): STATE, GUARDED, else OK; a header check that fails ends the operation at once with that result,
STORE_DONE to the requester, its detail unstated (a free value, log 24); one that passes makes the engine BUSY with the slot
and its blocks taken and the prepared field set. The checks in order: mark, spare words and field ranges of R163
(BAD_HEADER), the image's last sector (RANGE), the grid (GRID_MISMATCH), the bars under an UNSET grid (RANGE), a FREE slot
(NO_LAYER), the blocks (NO_MEMORY). -/
def Obligations.LoadStartsOrEnds : Prop :=
  (∀ (st : Station) (first : BitVec 16) (n : Byte) (s : State), Taken (.load st first n) st s → s.store.engine = .idle →
    let t := trackOf n
    let x := s.track t
    (x.state = .firstRec ∨ x.prepared ≠ none →
      exec (.load st first n) s = .next (finish (holdReply st ⟨.state, []⟩ s))) ∧
    (x.state ≠ .firstRec → x.prepared = none → x.guards.noEdit = true →
      exec (.load st first n) s = .next (finish (holdReply st ⟨.guarded, []⟩ s))) ∧
    (x.state ≠ .firstRec → x.prepared = none → x.guards.noEdit = false →
      (∀ r, loadCheck s first.toNat t = .error r →
        exec (.load st first n) s = .next (finish (holdReply st ⟨.ok, []⟩ (raiseTo st .storeDone { s with
          freeCount := s.freeCount + 1
          store := { s.store with
            engine := .idle, running := none, last := some ⟨.load, st, r, 0, .unstated s.freeCount⟩ } })))) ∧
      ∀ h l, loadCheck s first.toNat t = .ok (h, l) →
        ∃ u, exec (.load st first n) s = .next (finish (holdReply st ⟨.ok, []⟩ u)) ∧ u.store.engine = .busy ∧
          u.store.running = some ⟨.load l first.toNat h.length 0#32 h.sum, st, 0, false, false⟩ ∧
          (u.track t).prepared = some l ∧ (u.layer l).state = .preparing ∧ (u.layer l).length = h.length ∧
          (u.layer l).extents.length = (h.length + 4095) / 4096 ∧ u.flash = s.flash ∧ u.dram = s.dram ∧
          (s.grid.tempo = none → u.grid.tempo = some ⟨h.fpb, h.bpb, h.bars, 0, 0, 0⟩) ∧
          (s.grid.tempo ≠ none → u.grid = s.grid))) ∧
  (∀ (s : State) (first : Nat) (t : TrackId),
    let w (i : Nat) : Nat := (flashWord s first i).toNat
    let good : Prop := flashWord s first 0 = 0x38344C44#32 ∧ (∀ i, 11 ≤ i → i < 16 → w i = 0) ∧ (1 ≤ w 2 ∧ w 2 ≤ 32) ∧
      (1 ≤ w 3 ∧ w 3 ≤ 12) ∧ (12000 ≤ w 4 ∧ w 4 ≤ 48000) ∧ w 1 = w 2 * w 3 * w 4 ∧ w 5 ≤ 131072 ∧ w 6 < w 1 ∧ w 7 < w 1 ∧
      w 8 ≤ w 1 ∧ w 9 ≤ 1
    let last := first + (16 + w 1 + 16383) / 16384 - 1
    let foreign : Prop := ∃ g, s.grid.tempo = some g ∧
      (w 3 ≠ g.bpb ∨ w 4 ≠ g.fpb ∨ ((s.track t).state ≠ .empty ∧ (s.track t).tlf ≠ w 1))
    let long : Prop := s.grid.tempo = none ∧ 16 < w 2
    (¬good → loadCheck s first t = .error .badHeader) ∧
    (good → 1022 < last → loadCheck s first t = .error .range) ∧
    (good → last ≤ 1022 → foreign → loadCheck s first t = .error .gridMismatch) ∧
    (good → last ≤ 1022 → ¬foreign → long → loadCheck s first t = .error .range) ∧
    (good → last ≤ 1022 → ¬foreign → ¬long →
      (freeSlot s = none → loadCheck s first t = .error .noLayer) ∧
      ∀ l, freeSlot s = some l →
        (s.pool.free.length < (w 1 + 4095) / 4096 → loadCheck s first t = .error .noMemory) ∧
        ((w 1 + 4095) / 4096 ≤ s.pool.free.length → loadCheck s first t =
          .ok (⟨w 1, w 2, w 3, w 4, w 5, w 6, w 7, w 8, w 9, flashWord s first 10⟩, l))))

/-- PROTECT, SET STARTUP (R173) and RELEASE (R174): PROTECTED or BARRED, else OK with the option copy changed at once
and the engine BUSY; a RELEASE with floor 0 only rewrites the record. ABORT STORE (R175): STATE with nothing running
or while the option record is in work; an ERASE or SAVE takes the abort mark and runs on to its stopping point; a
BLANK CHECK, SUM or VERIFY ends at once with ABORTED and its progress; a LOAD's layer is purged and with it the LOAD
ends ABORTED. -/
def Obligations.OptionOperationsAndAbort : Prop :=
  (∀ (st : Station) (s : State), Settled s → s.store.engine ≠ .busy → s.budget.band ≠ .reserve →
       let o := s.store.option
       let started (j : StoreJob) (c : OptionCopy) : State :=
         { s with store := { s.store with engine := .busy, running := some ⟨j, st, 0, false, false⟩, option := c } }
       (∀ floor flags, Taken (.protect st floor flags) st s →
         let kept : Bool := decide (o.floor ≤ floor.toNat) && (!o.releaseBarred || flags.getLsbD 0) &&
           (!o.startupFixed || flags.getLsbD 1)
         (kept = false → exec (.protect st floor flags) s = .next (holdReply st ⟨.protected_, []⟩ s)) ∧
         (kept = true → exec (.protect st floor flags) s = .next (holdReply st ⟨.ok, []⟩
           (started .protect ⟨floor.toNat, flags.getLsbD 0, flags.getLsbD 1, o.list⟩)))) ∧
       (∀ es, Taken (.setStartup st es) st s →
         (o.startupFixed = true → exec (.setStartup st es) s = .next (holdReply st ⟨.barred, []⟩ s)) ∧
         (o.startupFixed = false → exec (.setStartup st es) s = .next (holdReply st ⟨.ok, []⟩
           (started .setStartup { o with list := es.map fun e => (trackOf e.1, e.2.toNat) })))) ∧
       (Taken (.release st) st s →
         (o.releaseBarred = true → exec (.release st) s = .next (holdReply st ⟨.barred, []⟩ s)) ∧
         (o.releaseBarred = false → exec (.release st) s = .next (holdReply st ⟨.ok, []⟩
           (started (.release o.floor) (if o.floor = 0 then ⟨0, false, false, []⟩ else o)))))) ∧
  (∀ (st : Station) (s : State), Taken (.abortStore st) st s →
       (s.store.running = none → exec (.abortStore st) s = .next (finish (holdReply st ⟨.state, []⟩ s))) ∧
       ∀ op, s.store.running = some op →
         let ended := raiseTo op.requester .storeDone { s with store := { s.store with
           engine := if s.store.engine = .starting then .starting else .idle, running := none
           last := some ⟨op.job.kind, op.requester, .aborted, op.progress, .value op.progress⟩ } }
         (op.job.kind = .protect ∨ op.job.kind = .setStartup ∨ op.job.kind = .release →
           exec (.abortStore st) s = .next (finish (holdReply st ⟨.state, []⟩ s))) ∧
         (op.job.kind = .erase ∨ op.job.kind = .save →
           exec (.abortStore st) s = .next (finish (holdReply st ⟨.ok, []⟩
             { s with store := { s.store with running := some { op with abort := true } } }))) ∧
         (op.job.kind = .blankCheck ∨ op.job.kind = .sum ∨ op.job.kind = .verify →
           exec (.abortStore st) s = .next (finish (holdReply st ⟨.ok, []⟩ ended))) ∧
         ∀ l first total sum check, op.job = .load l first total sum check → s.fold.job = none →
           ∃ u, exec (.abortStore st) s = .next (finish (holdReply st ⟨.ok, []⟩ u)) ∧ u.store.running = none ∧
             u.store.last = some ⟨.load, op.requester, .aborted, op.progress, .value op.progress⟩ ∧
             u.layer l = Layer.free ∧ u.pool.free = s.pool.free ++ (s.layer l).blocks)

/-- RESTART (R189): requests that other ports' executors hold execute first, S0 to S3, against the part before the reset (the
model's choice of R189's two orders, log 32); with none held the part is as it stood. Then the performance state returns to
its reset values at once, the settings that the chapters name as kept stay, the engine is STARTING with an all-clear map, the
cause reads RESTART, and the reply OK is placed with no dropped mark. A store operation that is running (R176): a BLANK
CHECK, SUM, LOAD or VERIFY stops with RESTARTED and its progress as the last result (the detail a free value, log 24), an ERASE,
SAVE, PROTECT, SET STARTUP or RELEASE runs on, and no STORE_DONE is raised. -/
def Obligations.RestartClearsPerformance : Prop :=
  (∀ (st : Station) (s : State), Taken (.restart st) st s →
    ∃ t, exec (.restart st) s = .next t ∧
      let u := stations.foldl (runHeld st) s
      t.grid.tempo = none ∧ (∀ x, t.track x = Track.reset) ∧ t.queue = [] ∧
      (∀ l, t.layer l = Layer.free) ∧ (∀ h, t.head h = none) ∧ t.arbiter.pointer = 3 ∧
      t.pool.free = List.range Config.blockCount ∧ t.pool.belowMark = false ∧ (∀ x, t.rings.get x = List.replicate Config.ringFrames 0#32) ∧
      t.budget.band = .full ∧ t.budget.reading = none ∧ t.budget.limit = u.budget.table.budgets.get 0 ∧
      t.budget.ceiling = u.budget.table.ceilings.get 0 ∧ t.budget.shedList = [] ∧ t.budget.reserve = [] ∧
      t.fold.job = none ∧ (∀ x, t.window x = Window.reset) ∧ t.settings = u.settings ∧ t.store.engine = .starting ∧
      t.store.erased = [] ∧ t.store.option = u.store.option ∧ (u.store.running = none → t.store.running = none ∧ t.store.last = u.store.last) ∧
      (∀ x, t.attention.events.get x = 0#14 ∧ t.attention.lastDrop.get x = none) ∧ t.resets.cause = .restart ∧ t.flash = s.flash ∧ t.dram = u.dram ∧
      (t.port st).executor = .ready ∧ (t.port st).holder = some ⟨0x00#8, []⟩ ∧ (t.port st).dropped = false ∧
      (∀ x, x ≠ st → (t.port x).executor = .ready ∧ (t.port x).holder = none ∧ (t.port x).dropped = false) ∧
      ∀ op, u.store.running = some op →
        (op.job.kind = .blankCheck ∨ op.job.kind = .sum ∨ op.job.kind = .load ∨ op.job.kind = .verify →
          t.store.running = none ∧
            t.store.last = some ⟨op.job.kind, op.requester, .restarted, op.progress, .unstated u.freeCount⟩) ∧
        (op.job.kind = .erase ∨ op.job.kind = .protect ∨ op.job.kind = .setStartup ∨ op.job.kind = .release →
          t.store.running = some { op with restarted := true } ∧ t.store.last = u.store.last) ∧
        (op.job.kind = .save → t.store.last = u.store.last ∧ ∃ j, j.kind = .save ∧
          t.store.running = some { op with restarted := true, job := j })) ∧
  (∀ (st x : Station) (s : State),
    (x = st ∨ (∀ i, (s.port x).executor ≠ .holding i) → runHeld st s x = s) ∧
    ∀ i, x ≠ st → requester i = some x → i ≠ .restart x → (s.port x).executor = .holding i → Taken i x s →
      ∃ r v, exec i s = .next (finish (holdReply x r v)) ∧ runHeld st s x = finish v)

/-! ### The frame boundary and its events -/

/-- FRAME_BOUNDARY. In a reset nothing moves (R114 as the model reads it, log 11). Else every ring takes its input word,
newest first (R77). Where nothing was due, no head is held, no fold job runs and no SET BANDS waits, the position advances
(R2), the tracks move (R22), the counts fall (R32), the reading timer steps (R123), the formed pair goes out (R114) and the
fades advance (R117); what falls due is left as the model's marks (log 4). A held first take writes the frame that has ended
at its position and grows by it; entering a new block it takes one from the pool, or the short mark if there is none, at once
or, if the boundary says so, at a SHORT_TAKE_CLOSE of its head (R80, R97, log 7). An overdub writes at the end of its span,
modulo its length (R85). A fold job that is not paused writes its next sixteen words; the advance that would complete it is
left for FOLD_COMPLETE (R145, R146; outside a source's span its part is 0, log 42). After a SET BANDS the budget and ceiling
of the band come into force, and nothing is shed where the count lies within the budget (R124, R136). -/
def Obligations.FrameBoundaryMovesPart : Prop :=
  (∀ (inputs : Vector Sample 8) (s : State),
    (∀ late, s.resets.inReset = true → exec (.frameBoundary inputs late) s = .next s) ∧
    (∀ late, s.resets.inReset = false → ∃ t, exec (.frameBoundary inputs late) s = .next t ∧
      (∀ i, t.rings.get i = ((inputs.get i).signExtend 32 :: s.rings.get i).take 4096) ∧ t.flash = s.flash ∧
      t.ports = s.ports) ∧
    (s.resets.inReset = false → Settled s → anyDue s = false → (∀ h, s.head h = none) → s.fold.job = none →
      s.budget.tableNew = false → s.store.phase ≠ .loaded →
      exec (.frameBoundary inputs ⟨false, false, false, false⟩) s = .next (finish { s with
        grid := match s.grid.tempo with
          | none => s.grid
          | some g => { s.grid with tempo := some g.advance, beatDue := g.advance.f == 0 }
        tracks := s.tracks.map fun x => Track.advanceFade s.mixer x.move
        layers := s.layers.map fun x => Layer.advanceFade s.mixer x
        queue := s.queue.map fun e => { e with remaining := e.remaining - 1 }
        rings := Vector.ofFn fun i => ((inputs.get i).signExtend 32 :: s.rings.get i).take 4096
        mixer := { s.mixer with lane := s.mixer.pair, frameOpen := true, fadesDue := false }
        budget := if s.budget.timer + 1 < 480 then { s.budget with timer := s.budget.timer + 1 }
          else { s.budget with timer := 0, readingDue := true } }))) ∧
  (∀ (inputs : Vector Sample 8) (late : Late) (h : HeadId) (held : Held) (s : State), s.resets.inReset = false →
    Settled s → anyDue s = false → s.head h = some held → s.head (otherHead h) = none → s.fold.job = none →
    s.budget.tableNew = false → MemoriesWf s → BlocksOk s →
    let l := held.layer
    let x := s.layer l
    let p := (s.track held.track).pos
    let word := (inputs.get held.source).signExtend 32
    ∃ t, exec (.frameBoundary inputs late) s = .next t ∧ t.budget.limit = s.budget.limit ∧
      (held.mode ≠ .overdub → (s.track held.track).state = .firstRec → p / 4096 < x.extents.length →
        layerWord t l p = word ∧ (t.track held.track).pos = p + 1 ∧ (t.layer l).length = p + 1 ∧
        (t.layer l).spanLen = p + 1 ∧
        let k := (p + 1) / 4096
        let wanted := x.extents.length = k + 1 ∧ (k + 1) * 4096 < held.limit ∧ held.short = false
        (¬wanted → t.head h = some held ∧ (t.layer l).blocks = x.blocks ∧ t.pool.free = s.pool.free) ∧
        (wanted → late.look = false →
          (∀ b rest, s.pool.free = b :: rest → t.head h = some held ∧ (t.layer l).blocks = x.blocks ++ [b] ∧
            (t.layer l).extents.getLast? = some ⟨b, true⟩ ∧ t.pool.free = rest) ∧
          (s.pool.free = [] → t.head h = some { held with short := true } ∧ (t.layer l).blocks = x.blocks)) ∧
        (wanted → late.look = true → t.head h = some { held with lookDue := true } ∧ (t.layer l).blocks = x.blocks ∧
          t.pool.free = s.pool.free)) ∧
      (held.mode = .overdub → x.length ≠ 0 → (x.spanStart + x.spanLen) % x.length / 4096 < x.extents.length →
        layerWord t l ((x.spanStart + x.spanLen) % x.length) = word ∧ (t.layer l).spanLen = x.spanLen + 1 ∧
        (t.layer l).length = x.length ∧ t.head h = some held ∧ t.pool.free = s.pool.free)) ∧
  (∀ (h : HeadId) (held : Held) (s : State), Settled s → s.head h = some held → held.lookDue = true →
    lookWanted s held = true →
    (∀ b rest, s.pool.free = b :: rest → ∃ t, exec (.shortTakeClose h) s = .next t ∧
      t.head h = some { held with lookDue := false } ∧ (t.layer held.layer).extents = (s.layer held.layer).extents ++ [⟨b, true⟩] ∧
      t.pool.free = rest) ∧
    (s.pool.free = [] → ∃ t, exec (.shortTakeClose h) s = .next t ∧ t.head h = some { held with lookDue := false, short := true } ∧
      t.layer held.layer = s.layer held.layer)) ∧
  (∀ (inputs : Vector Sample 8) (late : Late) (j : FoldJob) (s : State), s.resets.inReset = false → Settled s →
    anyDue s = false → (∀ h, s.head h = none) → s.fold.job = some j → s.budget.tableNew = false →
    ∃ t, exec (.frameBoundary inputs late) s = .next t ∧
      (s.budget.foldPaused = true → t.fold = s.fold ∧ t.dram = s.dram) ∧
      (s.budget.foldPaused = false → late.fold = true ∨ (s.track j.track).tlf ≤ j.next + 16 →
        t.fold = { s.fold with advanceDue := true } ∧ t.dram = s.dram) ∧
      (s.budget.foldPaused = false → late.fold = false → j.next + 16 < (s.track j.track).tlf → MemoriesWf s → BlocksOk s →
        (j.next + 15) / 4096 < (s.layer j.result).extents.length →
        t.fold.job = some { j with next := j.next + 16 } ∧
        ∀ i, j.next ≤ i → i < j.next + 16 → layerWord t j.result i = foldWord s j (s.track j.track).tlf i)) ∧
  (∀ (s : State) (j : FoldJob) (tlf i : Nat),
    let part (l : LayerId) : Int :=
      let x := s.layer l
      let k := (((i : Int) - x.offset) % tlf).toNat
      if ((((k : Int) - x.spanStart) % tlf).toNat) < x.spanLen then
        (((layerWord s l k).truncate 24 : Sample).toInt * (((x.gain : Int) * edgeRamp x k + 32768) / 65536) + 32768) / 65536
      else 0
    foldWord s j tlf i = (BitVec.ofInt 24 (max (-8388608) (min (part j.a + part j.b) 8388607))).signExtend 32) ∧
  (∀ (inputs : Vector Sample 8) (late : Late) (s : State), s.resets.inReset = false → Settled s → anyDue s = false →
    (∀ h, s.head h = none) → s.fold.job = none → s.budget.tableNew = true →
    ∃ t, exec (.frameBoundary inputs late) s = .next t ∧ t.budget.tableNew = false ∧
      (late.bands = true → t.budget.bandsDue = true ∧ t.budget.limit = s.budget.limit ∧
        t.budget.ceiling = s.budget.ceiling) ∧
      (late.bands = false → t.budget.bandsDue = false ∧
        t.budget.limit = s.budget.table.budgets.get s.budget.band.index ∧
        t.budget.ceiling = s.budget.table.ceilings.get s.budget.band.index ∧
        (streamCount s ≤ s.budget.table.budgets.get s.budget.band.index → t.budget.shedList = s.budget.shedList)))

/-- ENTRY_FIRE of one due entry (R32). One failing a test of R26 is dropped and told (R38, R42). What fires raises FIRED.
MUTE: MUTED with a fade toward 0 (R46). UNMUTE: PLAYING with a fade toward 65,536, and what the budget does not hold is shed
(R47, R134). UNDO of a layer: it moves from the stack to the front of the redo list, unshed, and fades out through the fade
reserve or is cut; a fifth redo layer is purged (R63, R132). UNDO of a take: it is purged with its head, the track EMPTY or
PLAYING (R64). A fold whose source leaves the stack is abandoned: marks clear, result purged, job ended, a start attempt asked
for (R149). REDO and COMMIT: dropped with BUDGET where admission fails; else the layer is on top of the stack, LIVE, fading
toward 65,536, for a COMMIT from 0 and with the redo list purged, on an EMPTY track with its length as loop (R65, R49, R61).
CLEAR: its layers are purged, the track EMPTY, settings kept (R48). STOP: a first take closes on its frames less the trim, a
capture by R9 and R15, an overdub with its span less the trim, the redo list purged (R60), or discarded where nothing is left
(R82, R86; a look-ahead due lapses, log 48). Chain flag (R41, R88): on the track the close left PLAYING guard, stack place and
band are tested, a failure told as a drop of the STOP, and else an overdub of the closed take's source and station is a
candidate. RECORD and OVERDUB (R75, R79, R85): the needs in order, each with its drop reason; all met, the take opens on the
lowest FREE head and slot with its pre-roll, the ring's newest words, oldest first (R78), and the pointer is the requester;
with no FREE head it is re-armed by R20, or dropped with HEADS at its fourth try (R40). Several due entries (R32) fire from
the front of the list, each on the state left so far; candidates are served by priority, then cyclically after the pointer,
then in list order, and the pointer names the station of the last take opened (R74, R75); their drops are told after all
others (log 45). -/
def Obligations.DueEntriesFireOrDrop : Prop :=
  (∀ (o : FireOrder) (e : Entry) (s : State), OneDue o e s →
       let t := e.track
       let x := s.track t
       let none_ := { s with queue := [] }
       let fade (env target : Nat) : Option Fade :=
         if env = target then none else some ⟨env, target, 0, false, s.mixer.fadesDue⟩
       let ends (u : State) : Prop := exec (.entryFire o) s = .next (finish u)
       let dropped (r : DropReason) : Prop := ends (tellDrop e.station t e.action r none_)
       let fired (u : State) : Prop := ∀ st, (u.attention.events.get st).getLsbD 3 = true
       let abandoned (j : FoldJob) (u : State) : Prop := u.fold.job = none ∧ u.fold.attemptDue = true ∧
         u.budget.foldPaused = false ∧ u.layer j.result = Layer.free ∧ (u.layer j.a).folding = false ∧
         (u.layer j.b).folding = false
       (∀ c, actionTest s t e.action false = some c → dropped (dropReasonOf e c)) ∧
       (actionTest s t e.action false = none →
         (e.action = .mute →
           ends (raiseAll .fired (none_.setTrack t { x with state := .muted, fade := fade x.env 0 }))) ∧
         (e.action = .unmute →
           ends (raiseAll .fired (shedToBudget (none_.setTrack t { x with state := .playing, fade := fade x.env 65536 })))) ∧
         (∀ ls l, e.action = .undo → x.state = .playing ∨ x.state = .muted → x.stack = ls ++ [l] → NoFold l s →
           let y := s.layer l
           (x.redo.length < 4 → ∃ u, ends u ∧ fired u ∧ (u.track t).stack = ls ∧ (u.track t).redo = l :: x.redo ∧
             (u.layer l).state = .redo ∧ (u.layer l).shed = false ∧ l ∉ u.budget.shedList ∧
             (y.env = 0 → (u.layer l).env = 0 ∧ (u.layer l).fade = none) ∧
             (y.env ≠ 0 → l ∈ s.budget.reserve ∨ s.budget.reserve.length < 8 →
               (u.layer l).env = y.env ∧ (u.layer l).fade = fade y.env 0 ∧ l ∈ u.budget.reserve) ∧
             (y.env ≠ 0 → l ∉ s.budget.reserve → 8 ≤ s.budget.reserve.length →
               (u.layer l).env = 0 ∧ (u.layer l).fade = none ∧ u.budget.reserve = s.budget.reserve) ∧
             (∀ m, m ≠ l → u.layer m = s.layer m) ∧ u.dram = s.dram) ∧
           ∀ rs old, x.redo = rs ++ [old] → rs.length = 3 → (s.layer old).track = some t → old ∉ x.stack → old ∉ rs →
             NoFold old s →
             ∃ u, ends u ∧ fired u ∧ (u.track t).stack = ls ∧ (u.track t).redo = l :: rs ∧ u.layer old = Layer.free ∧
               u.pool.free = s.pool.free ++ (s.layer old).blocks ∧ (u.layer l).state = .redo) ∧
         (∀ ls l j, e.action = .undo → x.state = .playing ∨ x.state = .muted → x.stack = ls ++ [l] → x.redo.length < 4 →
           s.fold.job = some j → (s.layer l).folding = true → l = j.a ∨ l = j.b → l ≠ j.result → j.result ≠ j.a →
           j.result ≠ j.b → j.result ∉ x.stack → j.result ∉ x.redo →
           ∃ u, ends u ∧ fired u ∧ abandoned j u ∧ (u.track t).stack = ls ∧ (u.track t).redo = l :: x.redo ∧
             (u.layer l).state = .redo ∧ u.pool.free = s.pool.free ++ (s.layer j.result).blocks) ∧
         (∀ h held l, e.action = .undo → x.state = .firstRec ∨ x.state = .overdub → Records h held t l s →
           (s.layer l).track = some t → NoFold l s →
           ∃ u, ends u ∧ fired u ∧ u.layer l = Layer.free ∧ u.head h = none ∧ (u.track t).take = none ∧
             u.pool.free = s.pool.free ++ (s.layer l).blocks ∧
             (x.state = .firstRec → (u.track t).state = .empty ∧ (u.track t).tlf = 0 ∧ (u.track t).pos = 0) ∧
             (x.state = .overdub → (u.track t).state = .playing ∧ (u.track t).tlf = x.tlf)) ∧
         (e.action = .redo ∨ e.action = .commit → admitOnto t s = none → dropped .budget) ∧
         (∀ l rest, e.action = .redo → x.redo = l :: rest → (s.layer l).state = .redo → admitOnto t s ≠ none →
           ∃ u, ends u ∧ fired u ∧ (u.track t).stack = x.stack ++ [l] ∧ (u.track t).redo = rest ∧
             u.layer l = { s.layer l with state := .live, fade := fade (s.layer l).env 65536 } ∧ l ∉ u.budget.reserve) ∧
         (∀ l, e.action = .commit → x.prepared = some l → (s.layer l).state = .preparing → admitOnto t s ≠ none →
           RedoOwn t l s →
           ∃ u, ends u ∧ fired u ∧ (u.track t).stack = x.stack ++ [l] ∧ (u.track t).redo = [] ∧ u.fold.job = s.fold.job ∧
             (u.track t).prepared = none ∧ (u.layer l).state = .live ∧ (u.layer l).env = 0 ∧
             (u.layer l).fade = fade 0 65536 ∧ (∀ m ∈ x.redo, u.layer m = Layer.free) ∧
             (x.state = .empty → (u.track t).state = .playing ∧ (u.track t).tlf = (s.layer l).length ∧
               (u.track t).bars = (s.layer l).length / barFrames s ∧ (u.track t).pos = 0 ∧ (u.track t).env = 65536) ∧
             (x.state ≠ .empty → (u.track t).state = x.state ∧ (u.track t).tlf = x.tlf)) ∧
         (∀ j, e.action = .clear → s.fold.job = some j → j.track = t → (s.layer j.result).track = some t →
           let ls := x.take.toList ++ x.stack ++ x.redo ++ x.prepared.toList
           j.result ∉ ls → (∀ m ∈ ls, (s.layer m).track = some t) → j.result ≠ j.a → j.result ≠ j.b →
           ∃ u, ends u ∧ fired u ∧ abandoned j u ∧ (∀ m ∈ ls, u.layer m = Layer.free) ∧ (u.track t).state = .empty ∧
             (u.track t).stack = [] ∧ (u.track t).redo = [] ∧ (u.track t).take = none ∧ (u.track t).prepared = none ∧
             u.dram = s.dram) ∧
         (e.action = .clear → (∀ j, s.fold.job = some j → j.track ≠ t) →
           let ls := x.take.toList ++ x.stack ++ x.redo ++ x.prepared.toList
           (∀ m ∈ ls, (s.layer m).track = some t ∧ NoFold m s) →
           ∃ u, ends u ∧ fired u ∧ u.track t = { x with
             state := .empty, bars := 0, tlf := 0, pos := 0, stack := [], redo := [], take := none,
             takeStation := (u.track t).takeStation, prepared := none, env := 65536, fade := none, foldWanted := false } ∧
             (∀ m ∈ ls, u.layer m = Layer.free) ∧ (∀ m, m ∉ ls → u.layer m = s.layer m) ∧ u.dram = s.dram) ∧
         (∀ h held l, e.action = .stop → Records h held t l s →
           let v := raiseAll .fired (stopTake held e.backdate none_)
           let y := v.track t
           let purged : Prop := (y.redo = [] ∧ ∀ m ∈ x.redo, v.layer m = Layer.free)
           (e.chain = false → ends v) ∧ fired v ∧
           (held.mode = .first → RedoOwn t l s →
             let n := x.pos - e.backdate
             purged ∧ y.state = .playing ∧ y.tlf = n ∧ y.bars = n / barFrames s ∧ y.pos = x.pos % n ∧ y.take = none ∧
               y.stack = x.stack ++ [l] ∧ (v.layer l).state = .live ∧ (v.layer l).length = n ∧ (v.layer l).spanLen = n ∧
               (v.layer l).offset = 0 ∧ v.head h = none ∧ v.dram = s.dram) ∧
           (held.mode = .capture → v = raiseAll .fired (closeCapture t l e.backdate none_)) ∧
           (held.mode = .overdub → e.backdate < (s.layer l).spanLen → RedoOwn t l s →
             purged ∧ y.state = .playing ∧ y.take = none ∧ y.stack = x.stack ++ [l] ∧ (v.layer l).state = .live ∧
               (v.layer l).spanLen = (s.layer l).spanLen - e.backdate ∧ (v.layer l).env = 65536 ∧ v.head h = none) ∧
           (held.mode = .overdub → (s.layer l).spanLen ≤ e.backdate → (s.layer l).track = some t → NoFold l s →
             y.state = .playing ∧ y.take = none ∧ v.layer l = Layer.free ∧ v.head h = none) ∧
           (e.chain = true →
             let told (r : DropReason) : Prop := ends (tellDrop e.station t .stop r v)
             let w := if o.foldFirst then runAttempt v else v
             let st := x.takeStation.getD e.station
             let need := (y.tlf + 4095) / 4096
             (y.state ≠ .playing → ends v) ∧
             (y.state = .playing → y.guards.noRecord = true → told .guarded) ∧
             (y.state = .playing → y.guards.noRecord = false → 12 ≤ y.stack.length → told .stackFull) ∧
             (y.state = .playing → y.guards.noRecord = false → y.stack.length < 12 → v.budget.band = .reserve → told .lowSupply) ∧
             (y.state = .playing → y.guards.noRecord = false → y.stack.length < 12 → v.budget.band ≠ .reserve →
               ends (arbitrate [⟨t, e.station, st, held.source, .stop, e.backdate, none⟩] w) ∧
               ∀ g m, freeHead w = some g → freeSlot w = some m → need ≤ w.pool.free.length →
                 streamCount w + 1 ≤ w.budget.limit →
                 ∃ u z, ends u ∧ u.head g = some z ∧ z.track = t ∧ z.layer = m ∧ z.source = held.source ∧ z.mode = .overdub ∧
                   z.newer = true ∧ (u.track t).state = .overdub ∧ (u.track t).take = some m ∧
                   (u.track t).takeStation = some st ∧ (u.layer m).state = .recording ∧ (u.layer m).length = y.tlf ∧
                   (u.layer m).spanStart = (((y.pos : Int) - e.backdate) % y.tlf).toNat ∧
                   u.arbiter.pointer = e.station))))) ∧
  (∀ (o : FireOrder) (e : Entry) (s : State), OneDue o e s → e.action = .record ∨ e.action = .overdub →
       actionTest s e.track e.action false = none →
       let t := e.track
       let x := s.track t
       let need := if e.action = .record then 2 else (x.tlf + 4095) / 4096
       let dropped (r : DropReason) : Prop :=
         exec (.entryFire o) s = .next (finish (tellDrop e.station t e.action r { s with queue := [] }))
       (freeHead s = none →
         (3 ≤ e.retries → dropped .heads) ∧
         (e.retries < 3 →
           let r := match s.grid.tempo with
             | none => 480
             | some g => if e.quantize = .now then 480
               else (periodOf g x e.quantize).2 - (periodOf g x e.quantize).1 % (periodOf g x e.quantize).2
           exec (.entryFire o) s = .next (finish { s with
             queue := [{ e with remaining := r, backdate := 0, retries := e.retries + 1 }] }))) ∧
       ∀ h, freeHead s = some h →
         (freeSlot s = none → dropped .noLayer) ∧
         ∀ l, freeSlot s = some l →
           (s.pool.free.length < need → dropped .noMemory) ∧
           (need ≤ s.pool.free.length → admitOne s = none → dropped .budget) ∧
           (need ≤ s.pool.free.length → streamCount s + 1 ≤ s.budget.limit →
             ∃ u held, exec (.entryFire o) s = .next u ∧ u.head h = some held ∧ held.track = t ∧ held.layer = l ∧
               held.source = e.source.getD 0 ∧ held.newer = true ∧ (u.track t).take = some l ∧
               (u.track t).takeStation = some e.station ∧ (u.layer l).state = .recording ∧
               u.arbiter.pointer = e.station ∧ u.queue = [] ∧ u.flash = s.flash ∧ u.ports = s.ports ∧ u.rings = s.rings ∧
               (∀ st, (u.attention.events.get st).getLsbD 3 = true) ∧
               (e.action = .record → (u.track t).state = .firstRec ∧ (u.track t).pos = e.backdate ∧
                 (u.layer l).length = e.backdate ∧ (u.layer l).spanLen = e.backdate ∧
                 held.mode = (if s.grid.tempo = none then .capture else .first)) ∧
               (e.action = .overdub → (u.track t).state = .overdub ∧ (u.track t).pos = x.pos ∧ held.mode = .overdub ∧
                 (u.layer l).length = x.tlf ∧ (u.layer l).spanStart = (((x.pos : Int) - e.backdate) % x.tlf).toNat ∧
                 (u.layer l).spanLen = min e.backdate (s.rings.get (e.source.getD 0)).length ∧
                 (u.layer l).blocks = s.pool.free.take need ∧ u.pool.free = s.pool.free.drop need) ∧
               let words := ((s.rings.get (e.source.getD 0)).take e.backdate).reverse
               (MemoriesWf s → BlocksOk s → e.action = .record → words.length ≤ 8192 →
                 ∀ k, k < words.length → layerWord u l k = words.getD k 0#32) ∧
               (MemoriesWf s → BlocksOk s → e.action = .overdub → words.length ≤ x.tlf →
                 ∀ k, k < words.length → layerWord u l (((u.layer l).spanStart + k) % x.tlf) = words.getD k 0#32))) ∧
  (∀ (o : FireOrder) (s : State), entryDue s = true →
       let r := fireDue s.queue.length o.foldFirst [] s
       exec (.entryFire o) s = .next (finish (arbitrate r.2 (if o.lookFirst then takeLooks r.1 else r.1)))) ∧
  (∀ (n : Nat) (b : Bool) (cs : List Candidate) (s : State),
       (s.queue = [] → fireDue (n + 1) b cs s = (s, cs)) ∧
       ∀ e rest, s.queue = e :: rest →
         let r := fireEntry e cs { s with queue := rest }
         (e.remaining ≠ 0 → fireDue (n + 1) b cs s = (s, cs)) ∧
         (e.remaining = 0 → fireDue (n + 1) b cs s = fireDue n b r.2 (if b then runAttempt r.1 else r.1))) ∧
  (∀ (e : Entry) (cs : List Candidate) (s : State),
       let r := fireEntry e [] s
       fireEntry e cs s = (r.1, cs ++ r.2) ∧
       (actionTest s e.track e.action false = none → e.action = .record ∨ e.action = .overdub →
         r = (s, [⟨e.track, e.station, e.station, e.source.getD 0, e.action, e.backdate, some e⟩])) ∧
       (actionTest s e.track e.action false ≠ none ∨ e.action = .mute ∨ e.action = .unmute ∨ e.action = .undo ∨
         e.action = .redo ∨ e.action = .clear ∨ e.action = .commit → r.2 = [])) ∧
  (∀ (s : State) (cs : List Candidate), (∀ st, s.arbiter.priorities.get st ≤ 3) →
       let rank (c : Candidate) : Nat := s.arbiter.priorities.get c.station
       let turn (c : Candidate) : Nat := (c.station.val + 3 - s.arbiter.pointer.val) % 4
       (arbiterOrder s cs).Perm cs ∧
       ((arbiterOrder s cs).Pairwise fun a b => rank b < rank a ∨ (rank a = rank b ∧ turn a ≤ turn b)) ∧
       (∀ st, (arbiterOrder s cs).filter (fun c => c.station == st) = cs.filter fun c => c.station == st) ∧
       let r := serveAll (arbiterOrder s cs) none s
       (r.1 = none → arbitrate cs s = r.2) ∧
       ∀ st, r.1 = some st → arbitrate cs s = { r.2 with arbiter := { r.2.arbiter with pointer := st } }) ∧
  (∀ (c : Candidate) (rest : List Candidate) (last : Option Station) (s : State),
       let r := serveCandidate c s
       let need := if c.action = .record then 2 else ((s.track c.track).tlf + 4095) / 4096
       let dropped (d : DropReason) : Prop := r = (false, tellDrop c.station c.track c.action d s)
       serveAll (c :: rest) last s = serveAll rest (if r.1 then some c.station else last) r.2 ∧ serveAll [] last s = (last, s) ∧
       (freeHead s = none → (c.entry = none → dropped .heads) ∧ ∀ e, c.entry = some e → r = (false, backOff e s)) ∧
       ∀ h, freeHead s = some h →
         (freeSlot s = none → dropped .noLayer) ∧
         ∀ l, freeSlot s = some l →
           (s.pool.free.length < need → dropped .noMemory) ∧
           (need ≤ s.pool.free.length → admitOne s = none → dropped .budget) ∧
           (∀ v, need ≤ s.pool.free.length → admitOne s = some v → r = (true, openCandidate c h l v)))

/-- TAKE_LIMIT_CLOSE and SHORT_TAKE_CLOSE of a FIRST-mode take with no redo list (R81, R82, R83, R60): the take
becomes a LIVE layer of the frames written, or of its whole bars, on top of the stack, and the track is PLAYING on
that loop. PASS_END (R87): the take closes on the stack; then, where a place, a slot, the blocks and admission are
there, the next take opens on the same head with the same source and station and no backdate, and else the overdub
ends with the track PLAYING, the head FREE, and the take station told the reason. A CAPTURE-mode take of L frames at its
limit with the grid UNSET (R9 to R14): CB is the capture setting, or the first of 1, 2, 4, 8, 16 whose raw tempo lies in
2P/3 up to 4P/3, or 1 or 16; FPB is the rounded tempo; in 12,000..48,000, with the blocks there, the grid is SET with the
position L mod N, the layer is LIVE with N frames and the track PLAYING on it, and CAPTURED goes to all stations; out of that
range the take is discarded, the track EMPTY, and CAPTURE_FAILED goes to all stations. With the grid SET (R15) the take is
fitted to the rounded number of bars, at most 32, and the grid is not moved; a take of no bar fails. With a block missing and
the pool empty the length is rounded down. A SHORT_TAKE_CLOSE closes a capture in the same way; a FIRST-mode take of no whole
bar it discards, the track EMPTY, the take station told NO_MEMORY, a waiting entry of the track marked (R83). The needs of a
next pass in order: a place, a slot, the blocks, admission. The push of a closed take (R60): the redo list purged, the take
LIVE on top of the stack at full envelope, the fold-wanted flag tested. -/
def Obligations.TakesCloseAndPassesEnd : Prop :=
  (∀ (h : HeadId) (held : Held) (s : State), s.head h = some held → held.mode = .first →
       (∀ g x, s.head g = some x → x.layer = held.layer → g = h) → (s.track held.track).redo = [] →
       let w := (s.track held.track).pos
       let closed (t : State) (n : Nat) : Prop :=
         (t.track held.track).state = .playing ∧ (t.track held.track).tlf = n ∧
           (t.track held.track).bars = n / barFrames s ∧ (t.track held.track).pos = w % n ∧
           (t.track held.track).take = none ∧ (t.track held.track).stack = (s.track held.track).stack ++ [held.layer] ∧
           (t.layer held.layer).state = .live ∧ (t.layer held.layer).length = n ∧ (t.layer held.layer).spanLen = n ∧
           (t.layer held.layer).offset = 0 ∧ (t.layer held.layer).env = 65536 ∧ t.head h = none ∧ t.dram = s.dram
       (limitReached s h = true → ∃ t, exec (.takeLimitClose h) s = .next t ∧ closed t w) ∧
       (shortReached s h = true → 1 ≤ w / barFrames s →
         ∃ t, exec (.shortTakeClose h) s = .next t ∧ closed t (w / barFrames s * barFrames s))) ∧
  (∀ (h : HeadId) (b : Bool) (held : Held) (s : State), s.head h = some held → passReached s h = true →
       let t := held.track
       let u := if b then runAttempt (pushTake t held.layer s) else pushTake t held.layer s
       (∀ l v, passNeeds t u = .ok (l, v) → exec (.passEnd h b) s =
         .next (finish (openOverdub t held.source ((s.track t).takeStation.getD 0) (s.layer held.layer).spanStart [] h l v))) ∧
       ∀ r, passNeeds t u = .error r → exec (.passEnd h b) s =
         .next (finish (tellTake t (s.track t).takeStation .overdub r (setTrackState t .playing (releaseHead h u))))) ∧
  (∀ l p b : Nat, captureCb 0 l p b =
       if 2 * p * b ≤ 3 * l ∧ 3 * l < 4 * p * b then 1 else if 4 * p * b ≤ 3 * l ∧ 3 * l < 8 * p * b then 2
       else if 8 * p * b ≤ 3 * l ∧ 3 * l < 16 * p * b then 4 else if 16 * p * b ≤ 3 * l ∧ 3 * l < 32 * p * b then 8
       else if 32 * p * b ≤ 3 * l ∧ 3 * l < 64 * p * b then 16 else if 3 * l < 2 * p * b then 1 else 16) ∧
  (∀ capb l p b : Nat, 1 ≤ capb → captureCb capb l p b = capb) ∧
  (∀ (t : TrackId) (s : State),
       (12 ≤ (s.track t).stack.length → passNeeds t s = .error .stackFull) ∧
       ((s.track t).stack.length < 12 →
         (freeSlot s = none → passNeeds t s = .error .noLayer) ∧
         ∀ l, freeSlot s = some l →
           let need := ((s.track t).tlf + 4095) / 4096
           (s.pool.free.length < need → passNeeds t s = .error .noMemory) ∧
           (need ≤ s.pool.free.length → admitOne s = none → passNeeds t s = .error .budget) ∧
           ∀ v, need ≤ s.pool.free.length → admitOne s = some v → passNeeds t s = .ok (l, v))) ∧
  (∀ (t : TrackId) (l : LayerId) (s : State), RedoOwn t l s →
       let x := s.track t
       let u := pushTake t l s
       let wanted : Bool := decide (s.fold.threshold ≠ 0 ∧ s.fold.threshold ≤ x.stack.length + 1)
       u.track t = { x with stack := x.stack ++ [l], redo := [], take := none, takeStation := none,
                            foldWanted := x.foldWanted || wanted } ∧
       u.layer l = { s.layer l with state := .live, env := 65536, fade := none } ∧
       (∀ m ∈ x.redo, u.layer m = Layer.free) ∧ (∀ m, m ≠ l → m ∉ x.redo → u.layer m = s.layer m) ∧
       u.fold = { s.fold with attemptDue := s.fold.attemptDue || wanted } ∧ u.dram = s.dram) ∧
  (∀ (t : TrackId) (h : HeadId) (held : Held) (l : LayerId) (s : State), Records h held t l s → held.mode = .first →
       shortReached s h = true → (s.track t).pos / barFrames s = 0 → (s.layer l).track = some t → NoFold l s →
       ∃ u, exec (.shortTakeClose h) s = .next (finish u) ∧
         u.track t = { s.track t with state := .empty, bars := 0, tlf := 0, pos := 0, take := none,
                                      takeStation := (u.track t).takeStation, stack := (u.track t).stack,
                                      redo := (u.track t).redo, prepared := (u.track t).prepared } ∧
         u.layer l = Layer.free ∧ u.head h = none ∧ u.pool.free = s.pool.free ++ (s.layer l).blocks ∧
         (∀ e ∈ u.queue, e.track = t → e.emptied = true) ∧
         ∀ st, (s.track t).takeStation = some st → (u.attention.events.get st).getLsbD 4 = true ∧
           u.attention.lastDrop.get st = some ⟨t, .record, .noMemory⟩) ∧
  (∀ (i : Instr) (t : TrackId) (h : HeadId) (held : Held) (l : LayerId) (s : State), Records h held t l s →
       held.mode = .capture →
       (i = .takeLimitClose h ∧ limitReached s h = true) ∨ (i = .shortTakeClose h ∧ shortReached s h = true) →
       (s.track t).redo = [] → (s.layer l).track = some t → NoFold l s →
       let w := (s.track t).pos
       let held_ := (s.layer l).extents.length
       let closed (u : State) (n bars pos : Nat) : Prop :=
         (u.track t).state = .playing ∧ (u.track t).tlf = n ∧ (u.track t).bars = bars ∧ (u.track t).pos = pos ∧
           (u.track t).take = none ∧ (u.track t).stack = (s.track t).stack ++ [l] ∧ (u.layer l).state = .live ∧
           (u.layer l).length = n ∧ (u.layer l).offset = 0 ∧ (u.layer l).spanStart = 0 ∧ (u.layer l).spanLen = min w n ∧
           u.head h = none ∧ (∀ st, (u.attention.events.get st).getLsbD 5 = true)
       let failed (u : State) : Prop :=
         (u.track t).state = .empty ∧ (u.track t).tlf = 0 ∧ (u.track t).bars = 0 ∧ (u.track t).take = none ∧
           u.layer l = Layer.free ∧ u.head h = none ∧ u.grid.tempo = s.grid.tempo ∧
           ∀ st, (u.attention.events.get st).getLsbD 6 = true
       let fits (n : Nat) : Prop := (n + 4095) / 4096 ≤ held_ + s.pool.free.length
       (s.grid.tempo = none →
         let b := s.grid.capBpb
         let cb := captureCb s.grid.capb w s.grid.pref b
         let fpb := (w + cb * b / 2) / (cb * b)
         let low := w / (cb * b)
         let done (f : Nat) (u : State) : Prop :=
           closed u (cb * b * f) cb (w % (cb * b * f)) ∧ u.grid.tempo = some (Tempo.atIndex f b cb (w % (cb * b * f)))
         (12000 ≤ fpb ∧ fpb ≤ 48000 → fits (cb * b * fpb) →
           ∃ u, exec i s = .next (finish u) ∧ done fpb u) ∧
         (12000 ≤ fpb ∧ fpb ≤ 48000 → ¬fits (cb * b * fpb) → 12000 ≤ low →
           ∃ u, exec i s = .next (finish u) ∧ done low u) ∧
         (¬(12000 ≤ fpb ∧ fpb ≤ 48000) ∨ (¬fits (cb * b * fpb) ∧ low < 12000) →
           ∃ u, exec i s = .next (finish u) ∧ failed u)) ∧
       ∀ g, s.grid.tempo = some g →
         let bar := g.bpb * g.fpb
         let n := min ((w + bar / 2) / bar) 32
         let low := w / bar
         (n ≠ 0 → fits (n * bar) → ∃ u, exec i s = .next (finish u) ∧
           closed u (n * bar) n (w % (n * bar)) ∧ u.grid = s.grid) ∧
         (n ≠ 0 → ¬fits (n * bar) → low ≠ 0 → ∃ u, exec i s = .next (finish u) ∧
           closed u (low * bar) low (w % (low * bar)) ∧ u.grid = s.grid) ∧
         (n = 0 ∨ (¬fits (n * bar) ∧ low = 0) → ∃ u, exec i s = .next (finish u) ∧ failed u))

/-- FADE_END (R117, R132): the envelope takes the target exactly and the fade record is none; a layer that reaches 0
leaves the fade reserve. FOLD_COMPLETE (R145, R147, R148): the advance that writes the last index completes the job: the
result stands at the bottom of the track's stack in place of its two sources, LIVE, pinned if one of them is, with the shed
mark and E_layer 0 if both are shed and E_layer 65,536 else, in the shed list at the place of the source nearer its end;
the sources' slots are FREE, or BUILDING where the start attempt at the completion took one of them (R143), and FOLD goes to all
stations. -/
def Obligations.FadeEndsAndFoldCompletes : Prop :=
  (∀ (f : Fade) (s : State), s.mixer.fadesDue = false → f.reached = true →
       (∀ t, (s.track t).fade = some f → exec (.fadeEnd (.track t)) s =
         .next (finish (s.setTrack t { s.track t with env := f.target, fade := none }))) ∧
       ∀ l, (s.layer l).fade = some f → exec (.fadeEnd (.layer l)) s = .next (finish
         { s.setLayer l { s.layer l with env := f.target, fade := none } with budget := { s.budget with
           reserve := if f.target = 0 then s.budget.reserve.filter (· != l) else s.budget.reserve } })) ∧
  (∀ (s : State) (j : FoldJob), s.fold.advanceDue = true → s.fold.job = some j →
       (s.track j.track).tlf ≤ j.next + 16 → j.result ≠ j.a → j.result ≠ j.b → j.a ≠ j.b →
       (s.layer j.result).state = .building → j.result ∉ (s.track j.track).stack →
       let both := (s.layer j.a).shed && (s.layer j.b).shed
       ∃ t u, exec .foldComplete s = .next t ∧ t = finish u ∧
         (t.track j.track).stack = j.result :: (s.track j.track).stack.filter (fun l => l != j.a && l != j.b) ∧
         (t.layer j.result).state = .live ∧ (t.layer j.result).shed = both ∧
         (t.layer j.result).env = (if both then 0 else 65536) ∧ (t.layer j.result).fade = none ∧
         (t.layer j.result).pinned = ((s.layer j.a).pinned || (s.layer j.b).pinned) ∧
         u.layer j.a = Layer.free ∧ u.layer j.b = Layer.free ∧ u.fold.job = none ∧
         ((t.layer j.a).state = .free ∨ (t.layer j.a).state = .building) ∧
         ((t.layer j.b).state = .free ∨ (t.layer j.b).state = .building) ∧
         (both = true → u.budget.shedList = foldShedList j.a j.b j.result s.budget.shedList) ∧
         (both = false → u.budget.shedList = s.budget.shedList.filter fun l => l != j.a && l != j.b) ∧
         (∀ st, (t.attention.events.get st).getLsbD 9 = true) ∧ t.flash = s.flash ∧ t.ports = s.ports) ∧
  (∀ (a b r : LayerId) (ls ms ns : List LayerId), (ls ++ a :: ms ++ b :: ns).Nodup →
       foldShedList a b r (ls ++ a :: ms ++ b :: ns) = ls ++ ms ++ r :: ns ∧
       foldShedList b a r (ls ++ a :: ms ++ b :: ns) = ls ++ ms ++ r :: ns)

/-- SUPPLY_READING (R123, R125, R126): the reading is the pin's level limited to 2,550; with thresholds in order the
band steps down to the level of the reading, or else up to the highest band whose entry level the reading reaches; a
reading that leaves the band changes nothing else; a band change takes the table's budget and ceiling and raises BAND
to all stations. With a SET BANDS waiting at the same boundary either comes first (R139), and the budget and ceiling in force
afterwards are those of the new table for the band. Escalation (R136), where the count exceeds the budget: the excess is shed
from the head of the shed order; where that is not enough, all of it, the fold is paused, and then the newest-opened recording
is closed, and the other if the count still exceeds; the count ends within the budget. The shed order (R129): the counted
layers, unpinned first, then higher rank, higher track, lower in the stack. A shed (R130): mark, end of the list, SHED to all
stations, a fade toward 0 through the fade reserve, or E_layer 0 where the layer is silent or the reserve full. A budget close
(R89): an overdub by its span, a FIRST take by its whole bars, becomes a LIVE layer and is shed; with nothing to keep it is
discarded; a capture closes as R9 gives; the head is FREE and the take station told BUDGET. -/
def Obligations.ReadingMovesBand : Prop :=
  (∀ (n : Nat) (r : Bool) (s : State), s.budget.readingDue = true → s.budget.bandsDue = false →
    s.budget.table.tc < s.budget.table.tb → s.budget.table.tb < s.budget.table.ta →
    let v := min n 2550
    let x := s.budget.table
    let down : Band := if v < x.tc then .reserve else if v < x.tb then .lean else if v < x.ta then .trim else .full
    let up : Band := if x.ta + x.hy ≤ v then .full else if x.tb + x.hy ≤ v then .trim
      else if x.tc + x.hy ≤ v then .lean else .reserve
    let b : Band := if s.budget.band.index < down.index then down
      else if up.index < s.budget.band.index then up else s.budget.band
    (b = s.budget.band → exec (.supplyReading ⟨n, r⟩) s = .next (finish { s with budget := { s.budget with
      sense := n, reading := some v, readingDue := false } })) ∧
    (b ≠ s.budget.band → ∃ t, exec (.supplyReading ⟨n, r⟩) s = .next t ∧ t.budget.reading = some v ∧ t.budget.band = b ∧
      t.budget.limit = x.budgets.get b.index ∧ t.budget.ceiling = x.ceilings.get b.index ∧
      (∀ st, (t.attention.events.get st).getLsbD 8 = true) ∧ t.flash = s.flash ∧ t.ports = s.ports ∧ t.dram = s.dram ∧
      let u := raiseAll .band { s with budget := { s.budget with
        sense := n, reading := some v, readingDue := false, band := b, limit := x.budgets.get b.index,
        ceiling := x.ceilings.get b.index } }
      let w := if b = .lean ∨ b = .reserve then pauseFold u else u
      t = finish (if w.budget.limit < streamCount w then escalate w else w))) ∧
  (∀ (n : Nat) (r : Bool) (s : State), s.budget.bandsDue = true → ∃ t, exec (.supplyReading ⟨n, r⟩) s = .next t ∧
    t.budget.bandsDue = false ∧ t.budget.readingDue = false ∧ t.budget.table = s.budget.table ∧
    t.budget.limit = s.budget.table.budgets.get t.budget.band.index ∧
    t.budget.ceiling = s.budget.table.ceilings.get t.budget.band.index ∧
    (s.budget.readingDue = true → t.budget.reading = some (min n 2550) ∧
      t.budget.band = moveBand s.budget.table (min n 2550) s.budget.band)) ∧
  (∀ s : State, TracksOk s → HeadsOk s → FoldOk s → 1 ≤ s.budget.limit → s.budget.limit < streamCount s →
    let excess := streamCount s - s.budget.limit
    let order := shedOrder s
    let u := order.foldl (fun s l => shedLayer l s) s
    streamCount (escalate s) ≤ s.budget.limit ∧
    (excess ≤ order.length → escalate s = (order.take excess).foldl (fun s l => shedLayer l s) s) ∧
    (order.length < excess → excess ≤ order.length + foldStreams s → escalate s = pauseFold u) ∧
    (order.length + foldStreams s < excess → ∃ h, newestHead s = some h ∧
      escalate s = closeNewest (budgetClose h (pauseFold u)))) ∧
  (∀ s : State, TracksOk s →
    (shedOrder s).Nodup ∧ (∀ l, l ∈ shedOrder s ↔ ∃ t, l ∈ countedLayers s t) ∧
    (shedOrder s).Pairwise fun a b => ∀ x y, (s.layer a).track = some x → (s.layer b).track = some y →
      ((s.layer a).pinned = false ∧ (s.layer b).pinned = true) ∨ ((s.layer a).pinned = (s.layer b).pinned ∧
        ((s.track y).rank < (s.track x).rank ∨ ((s.track x).rank = (s.track y).rank ∧
          (y < x ∨ (x = y ∧ (s.track x).stack.idxOf a < (s.track x).stack.idxOf b)))))) ∧
  (∀ (s : State) (l : LayerId),
    let x := s.layer l
    let u := shedLayer l s
    let silent := x.env = 0 ∨ ∀ t, x.track = some t → (s.track t).env = 0
    u.budget.shedList = s.budget.shedList ++ [l] ∧ (∀ m, m ≠ l → u.layer m = s.layer m) ∧ u.dram = s.dram ∧
    (∀ st, (u.attention.events.get st).getLsbD 7 = true) ∧
    (silent → u.layer l = { x with shed := true, env := 0, fade := none } ∧ u.budget.reserve = s.budget.reserve) ∧
    (¬silent → l ∈ s.budget.reserve ∨ s.budget.reserve.length < 8 →
      u.layer l = { x with shed := true, fade := some ⟨x.env, 0, 0, false, s.mixer.fadesDue⟩ } ∧ l ∈ u.budget.reserve) ∧
    (¬silent → l ∉ s.budget.reserve → 8 ≤ s.budget.reserve.length →
      u.layer l = { x with shed := true, env := 0, fade := none } ∧ u.budget.reserve = s.budget.reserve)) ∧
  (∀ (h : HeadId) (held : Held) (t : TrackId) (l : LayerId) (s : State), Records h held t l s →
    let x := s.track t
    let u := budgetClose h s
    let bars := x.pos / barFrames s
    let closed := (u.track t).state = .playing ∧ (u.track t).take = none ∧ (u.track t).stack = x.stack ++ [l] ∧
      (u.layer l).state = .live ∧ (u.layer l).shed = true ∧ l ∈ u.budget.shedList ∧ u.head h = none
    let discarded := u.layer l = Layer.free ∧ (u.track t).take = none ∧ u.head h = none
    (∀ st, x.takeStation = some st → (u.attention.events.get st).getLsbD 4 = true ∧ u.attention.lastDrop.get st =
      some ⟨t, if held.mode = .overdub then .overdub else .record, .budget⟩) ∧
    (held.mode = .overdub → (s.layer l).spanLen ≠ 0 → x.redo = [] → closed ∧ (u.layer l).spanLen = (s.layer l).spanLen) ∧
    (held.mode = .overdub → (s.layer l).spanLen = 0 → (s.layer l).track = some t → s.fold.job = none →
      discarded ∧ (u.track t).state = .playing) ∧
    (held.mode = .first → 1 ≤ bars → x.redo = [] →
      closed ∧ (u.track t).tlf = bars * barFrames s ∧ (u.layer l).length = bars * barFrames s) ∧
    (held.mode = .first → bars = 0 → (s.layer l).track = some t → s.fold.job = none →
      discarded ∧ (u.track t).state = .empty ∧ ∀ e ∈ u.queue, e.track = t → e.emptied = true) ∧
    (held.mode = .capture → u = tellTake t x.takeStation .record .budget (shedIfLive l (closeCapture t l 0 s))))

/-! ### Completions of the keep flash -/

/-- FLASH_SECTOR_DONE of an ERASE (R166): the sector reads 0xFF, its mark is set, progress rises; after the last sector the
result is DONE with the count; a failed erase ends with ERASE_FAIL and the sector's number; STORE_DONE goes to the requester;
every byte outside the sector reads as before. With the abort mark it stops when the sector in progress is erased, ABORTED with
the progress as detail, the last sector or not (R175); one that a RESTART found stops there with RESTARTED and its progress, no
STORE_DONE and no mark in the cleared map (R176), the detail a free value (log 24). A sector that fails there gives ERASE_FAIL
under the abort mark and RESTARTED after a RESTART (the model's choice, log 39). -/
def Obligations.EraseDoesOneSector : Prop :=
  ∀ (left : FlashLeft) (s : State) (rq : Station) (first count p : Nat) (abort restarted : Bool),
    s.store.running = some ⟨.erase first count, rq, p, abort, restarted⟩ → leftWf left = true → MemoriesWf s →
    let k := first + p
    let outside (t : State) : Prop := t.dram = s.dram ∧ ∀ x, x < 65536 * k ∨ 65536 * k + 65536 ≤ x →
      readByte flashDefault t.flash x = readByte flashDefault s.flash x
    let erased (t : State) : Prop := ∀ i, i < 65536 → readByte flashDefault t.flash (65536 * k + i) = 0xFF#8
    let ended (r : StoreResult) (n : Nat) (d : Detail) (t : State) : Prop :=
      t.store.running = none ∧ t.store.last = some ⟨.erase, rq, r, n, d⟩
    let told (t : State) : Prop := (t.attention.events.get rq).getLsbD 10 = true
    (restarted = false → ∃ t, exec (.flashSectorDone false left) s = .next t ∧ outside t ∧ erased t ∧ k ∈ t.store.erased ∧
      (abort = true → ended .aborted (p + 1) (.value (p + 1)) t ∧ told t) ∧
      (abort = false → p + 1 < count → t.store.running = some ⟨.erase first count, rq, p + 1, false, false⟩ ∧
        t.store.last = s.store.last ∧ t.store.engine = s.store.engine) ∧
      (abort = false → count ≤ p + 1 → ended .done (p + 1) (.value count) t ∧ told t)) ∧
    (restarted = false → ∃ t, exec (.flashSectorDone true left) s = .next t ∧ outside t ∧ k ∉ t.store.erased ∧
      ended .eraseFail p (.value k) t ∧ told t) ∧
    (restarted = true →
      (∃ t, exec (.flashSectorDone false left) s = .next t ∧ outside t ∧ erased t ∧ t.store.erased = s.store.erased ∧
        ended .restarted (p + 1) (.unstated s.freeCount) t ∧ (Settled s → t.attention = s.attention)) ∧
      ∃ t, exec (.flashSectorDone true left) s = .next t ∧ outside t ∧ k ∉ t.store.erased ∧
        ended .restarted p (.unstated s.freeCount) t ∧ (Settled s → t.attention = s.attention))

/-- FLASH_SECTOR_DONE of a BLANK CHECK and of a SUM (R167): a sector that reads erased gets its mark and the check
goes on, any other clears it and ends with NOT_BLANK and the sector (not counted in the progress, the model's choice,
log 43); the detail of DONE is a free value (log 24); a SUM subtracts the sector's bytes modulo 65,536
and ends with the value; the flash stays. -/
def Obligations.CheckAndSumReadSectors : Prop :=
  ∀ (f : Bool) (left : FlashLeft) (s : State) (op : StoreOp) (first count : Nat), Settled s →
    s.store.running = some op →
    let k := first + op.progress
    let ended (r : StoreResult) (p : Nat) (d : Detail) (u : State) : State := raiseTo op.requester .storeDone
      { u with store := { u.store with engine := if s.store.engine = .starting then .starting else .idle, running := none,
                                       last := some ⟨op.job.kind, op.requester, r, p, d⟩ } }
    (op.job = .blankCheck first count → sectorErased s k = false →
      exec (.flashSectorDone f left) s = .next (ended .notBlank op.progress (.value k)
        { s with store := { s.store with erased := s.store.erased.filter fun m => decide (m < k) || decide (k + 1 ≤ m) } })) ∧
    (op.job = .blankCheck first count → sectorErased s k = true → op.progress + 1 < count →
      exec (.flashSectorDone f left) s = .next { s with store := { s.store with
        erased := insertMark k s.store.erased, running := some { op with progress := op.progress + 1 } } }) ∧
    (op.job = .blankCheck first count → sectorErased s k = true → count ≤ op.progress + 1 →
      exec (.flashSectorDone f left) s = .next (ended .done (op.progress + 1) (.unstated s.freeCount)
        { s with freeCount := s.freeCount + 1
                 store := { s.store with erased := insertMark k s.store.erased } })) ∧
    ∀ acc, op.job = .sum first count acc →
      let acc2 := acc - BitVec.ofNat 16 (sectorTotal s k)
      (op.progress + 1 < count → exec (.flashSectorDone f left) s = .next { s with store := { s.store with
        running := some { op with job := .sum first count acc2, progress := op.progress + 1 } } }) ∧
      (count ≤ op.progress + 1 →
        exec (.flashSectorDone f left) s = .next (ended .done (op.progress + 1) (.value acc2.toNat) s))

/-- FLASH_PAGE_DONE of a SAVE (R168): the page's words, header and samples, are programmed, header mark and sample sum left
erased, and progress counts the image words so far; after the last page the two's complement of the samples' sum and then the
mark are programmed and the read-back begins; it ends with PROGRAM_FAIL at the first word that did not take (the command's
operand, log 16), or at the last page with DONE and the image's sectors. One FLASH_PAGE_DONE for each of these steps is the
model's choice (log 18). A SAVE with the abort mark, or one that a RESTART found, stops when the page in progress is
programmed, its mark left erased: ABORTED with the progress as detail and STORE_DONE (R175), or RESTARTED with the progress
and neither (R176), the detail a free value (log 24); after a RESTART the page holds the words it had in hand (log 20). Where
such a stop falls after the last page is the model's choice too (log 18): at the step of sum and mark the sum is programmed
and the mark left erased, and in the read-back the SAVE stops in the same way with its mark already programmed.
VERIFY_PROGRESS (R169): the image words compared, each with the word a SAVE would write now, are counted, with the first that
differs; at the last the result is DONE, or MISMATCH with the count and the first index. LOAD_COPY_DONE (R171): the words are
copied, each narrowed to a sample (the model's reading, log 35); at the last the sum decides between DONE with the layer id
and CHECK_FAIL with the layer purged: with no fold running its slot is FREE, its blocks go back and no track has it prepared.
STORE_DONE goes to the requester. The detail of VERIFY's DONE and of CHECK_FAIL is a free value (log 24). How many words one
of these two commands handles is its operand (log 21). -/
def Obligations.ImageOperationsAdvance : Prop :=
  (∀ (s : State) (rq : Station) (l : LayerId) (first total page progress : Nat) (header : List Word) (sum : Word)
       (bad : List Nat) (held : List Word) (abort restarted : Bool) (faults : PageFaults), Settled s →
       let now (phase : SavePhase) : Prop :=
         s.store.running = some ⟨.save l first header total sum phase bad held, rq, progress, abort, restarted⟩
       let took (base : Nat) (ws : List (Nat × Word)) : List (Nat × Word) := ws.map fun w =>
         match faults.find? fun f => base + f.1 == w.1 with
         | some f => (w.1, f.2)
         | none => w
       let missed (base : Nat) (ws : List (Nat × Word)) : List Nat :=
         ((ws.zip (took base ws)).filter fun p => p.1.2 != p.2.2).map fun p => p.1.1
       let programmed (base : Nat) (ws : List (Nat × Word)) : State := { s with
         flash := (took base ws).foldl (fun m w => writeWord flashDefault m (65536 * first + 4 * w.1) w.2) s.flash }
       let finished (r : StoreResult) (p : Nat) (d : Detail) : Store := { s.store with
         engine := if s.store.engine = .starting then .starting else .idle, running := none
         last := some ⟨.save, rq, r, p, d⟩ }
       let ends (r : StoreResult) (p : Nat) (d : Detail) (u : State) : State :=
         raiseTo rq .storeDone { u with store := finished r p d }
       let goes (p : Nat) (phase : SavePhase) (sum2 : Word) (bad2 : List Nat) (u : State) : State :=
         if restarted then { u with freeCount := s.freeCount + 1, store := finished .restarted p (.unstated s.freeCount) }
         else if abort then ends .aborted p (.value p) u
         else { u with store := { s.store with
           running := some ⟨.save l first header total sum2 phase bad2 [], rq, p, false, false⟩ } }
       (now (.pages page) →
         let page_ := saveWords s l header total page
         let ws := if restarted then (page_.map Prod.fst).zip held else page_
         exec (.flashPageDone faults) s = .next (goes (min (64 * (page + 1)) total)
           (if total ≤ 64 * (page + 1) then .finish else .pages (page + 1)) (sum + saveSum ws) (bad ++ missed (64 * page) ws)
           (programmed (64 * page) ws))) ∧
       (now .finish →
         let mark : List (Nat × Word) := if abort || restarted then [] else [(0, 0x38344C44#32)]
         let ws := (10, 0#32 - sum) :: mark
         exec (.flashPageDone faults) s = .next (goes progress (.readBack 0) sum (bad ++ missed 0 ws) (programmed 0 ws))) ∧
       (now (.readBack page) →
         let inPage (i : Nat) : Prop := i ∈ bad ∧ 64 * page ≤ i ∧ i < 64 * (page + 1) ∧ i < total
         ((abort || restarted) = true → exec (.flashPageDone faults) s = .next (goes progress .finish sum bad s)) ∧
         ((abort || restarted) = false →
           (∀ i, inPage i → (∀ j, inPage j → i ≤ j) →
             exec (.flashPageDone faults) s = .next (ends .programFail progress (.value i) s)) ∧
           ((∀ i, ¬inPage i) → 16 ≤ total → total ≤ 64 * (page + 1) →
             exec (.flashPageDone faults) s = .next (ends .done progress (.value ((total + 16383) / 16384)) s)) ∧
           ((∀ i, ¬inPage i) → 64 * (page + 1) < total →
             exec (.flashPageDone faults) s = .next (goes progress (.readBack (page + 1)) sum bad s))))) ∧
  (∀ (s : State) (l : LayerId) (header : List Word) (total page : Nat), saveWords s l header total page =
       ((List.range' (64 * page) (min (64 * (page + 1)) total - 64 * page)).filter fun i => i != 0 && i != 10).map
         fun i => (i, if i < 16 then header.getD i 0#32 else layerWord s l (i - 16))) ∧
  (∀ ws : List (Nat × Word), saveSum ws = ((ws.filter fun w => decide (16 ≤ w.1)).map Prod.snd).foldl (· + ·) 0#32) ∧
  (∀ (s : State) (l : LayerId) (i : Nat) (g : Tempo), s.grid.tempo = some g →
       let x := s.layer l
       let w (n : Nat) : Word := BitVec.ofNat 32 n
       let header (sum : Word) : List Word := [0x38344C44#32, w x.length, w (x.length / (g.bpb * g.fpb)), w g.bpb, w g.fpb,
         w x.gain, w x.offset, w x.spanStart, w x.spanLen, w x.pinned.toNat, sum, 0#32, 0#32, 0#32, 0#32, 0#32]
       (∀ sum, imageHeader s l sum = header sum) ∧
       expectedWord s l i = (if i < 16 then
         (header (0#32 - (List.range x.length).foldl (fun acc k => acc + layerWord s l k) 0#32)).getD i 0#32
         else layerWord s l (i - 16))) ∧
  (∀ (n : Nat) (s : State) (op : StoreOp) (l : LayerId) (first total : Nat), s.store.running = some op →
       let k := min n (total - op.progress)
       (∀ differ firstDiff, op.job = .verify l first total differ firstDiff →
         let r := compareWords s l first k op.progress (differ, firstDiff)
         ∃ t, exec (.verifyProgress n) s = .next t ∧ t.flash = s.flash ∧ t.dram = s.dram ∧
           (total ≤ op.progress + k → (t.attention.events.get op.requester).getLsbD 10 = true) ∧
           (op.progress + k < total → t.store.running = some { op with
             job := .verify l first total r.1 r.2, progress := op.progress + k }) ∧
           (total ≤ op.progress + k → r.1 = 0 → t.store.running = none ∧ t.store.last = some
             ⟨.verify, op.requester, .done, op.progress + k, .unstated s.freeCount⟩) ∧
           (total ≤ op.progress + k → r.1 ≠ 0 → t.store.running = none ∧ t.store.last = some
             ⟨.verify, op.requester, .mismatch, op.progress + k, .mismatch r.1 r.2⟩)) ∧
       ∀ sum check, op.job = .load l first total sum check →
         let r := copyWords first l k op.progress sum s
         ∃ t, exec (.loadCopyDone n) s = .next t ∧ t.flash = s.flash ∧
           (total ≤ op.progress + k → (t.attention.events.get op.requester).getLsbD 10 = true) ∧
           (op.progress + k < total → t.dram = r.2.dram ∧ t.store.running = some { op with
             job := .load l first total r.1 check, progress := op.progress + k }) ∧
           (total ≤ op.progress + k → r.1 + check = 0#32 → t.dram = r.2.dram ∧ t.store.running = none ∧
             t.store.last = some ⟨.load, op.requester, .done, op.progress + k, .value l.val⟩) ∧
           (total ≤ op.progress + k → r.1 + check ≠ 0#32 → t.store.running = none ∧ t.store.last = some
             ⟨.load, op.requester, .checkFail, op.progress + k, .unstated s.freeCount⟩ ∧
             (s.fold.job = none → s.fold.attemptDue = false → t.layer l = Layer.free ∧
               t.pool.free = s.pool.free ++ (s.layer l).blocks ∧
               ∀ x, (s.layer l).track = some x → (t.track x).prepared ≠ some l))) ∧
  (∀ (s : State) (l : LayerId) (first n i : Nat) (acc : Nat × Nat),
       compareWords s l first (n + 1) i acc = compareWords s l first n (i + 1)
         (if flashWord s first i = expectedWord s l i then acc else (acc.1 + 1, if acc.1 = 0 then i else acc.2)) ∧
         compareWords s l first 0 i acc = acc) ∧
  (∀ (s : State) (l : LayerId) (first n i : Nat) (acc : Word),
       copyWords first l (n + 1) i acc s = copyWords first l n (i + 1) (acc + flashWord s first (16 + i))
         (storeLayerWord l i (narrowWord (flashWord s first (16 + i))) s) ∧
         copyWords first l 0 i acc s = (acc, s))

/-- OPTION_REWRITE_DONE (R172, R173, R174): sector 1,023 holds the nine words of the record of the copy and reads erased
elsewhere, and the operation ends DONE, a RELEASE with the number of sectors it erased, else with a free value as detail (log
24); the record then reads back as the copy, if the copy's fields are in range (that a rewrite mends a broken record is the
model's mark, log 17). A failed erase ends with ERASE_FAIL and 1,023, a word that does not take (the command's operand, log
16) with PROGRAM_FAIL and the first such index; the copy stays and the record reads as invalid. A PROTECT or SET STARTUP that
a RESTART found finishes its rewrite in the same way and takes RESTARTED (R176; where the rewrite fails too, the model's
reading, log 39), with no STORE_DONE; a RELEASE that a RESTART found ends as any other and raises STORE_DONE (the model's
reading, log 23). The rewrite does not count in the progress (log 51). Every sector below is left alone. A RELEASE first
erases each sector below the floor, one FLASH_SECTOR_DONE each, setting its mark; after the last the copy has floor 0, no
flags and an empty list, and the rewrite begins; a failed erase ends it with ERASE_FAIL and the sector's number (R174). -/
def Obligations.RewriteWritesOptionRecord : Prop :=
  (∀ (f : Bool) (left : FlashLeft) (faults : PageFaults) (s : State) (op : StoreOp), leftWf left = true → MemoriesWf s →
    s.store.running = some op →
    op.job = .protect ∨ op.job = .setStartup ∨ (∃ n, op.job = .release n ∧ n ≤ op.progress) →
    let o := s.store.option
    let record (i : Nat) : Word := (optionRecord o).getD i 0#32
    let took (i : Nat) : Word := match faults.find? fun x => x.1 == i with
      | some x => x.2
      | none => record i
    let valid : Prop := f = false ∧ ∀ i, i < 9 → took i = record i
    let quiet : Prop := op.restarted = true ∧ (op.job = .protect ∨ op.job = .setStartup)
    ∃ t, exec (.optionRewriteDone f left faults) s = .next t ∧ t.dram = s.dram ∧
      (∀ x, x < 65536 * 1023 → readByte flashDefault t.flash x = readByte flashDefault s.flash x) ∧
      t.store.running = none ∧ t.store.option = o ∧
      let ended (r : StoreResult) (d : Detail) : Prop := t.store.last = some ⟨op.job.kind, op.requester, r, op.progress, d⟩
      (¬quiet → (t.attention.events.get op.requester).getLsbD 10 = true) ∧
      (quiet → ended .restarted (.unstated s.freeCount) ∧ (Settled s → t.attention = s.attention)) ∧
      (f = true → ¬quiet → ended .eraseFail (.value 1023)) ∧
      (f = false → (∀ i, i < 9 → flashWord t 1023 i = took i) ∧
        (∀ i, 9 ≤ i → i < 16384 → flashWord t 1023 i = 0xFFFFFFFF#32)) ∧
      (∀ i, f = false → i < 9 → took i ≠ record i → (∀ k, k < i → took k = record k) → ¬quiet →
        ended .programFail (.value i)) ∧
      (valid → ¬quiet → ended .done (match op.job with | .release n => .value n | _ => .unstated s.freeCount)) ∧
      (¬valid → readOption t = none) ∧
      (valid → o.floor ≤ 1023 → o.list.length ≤ 4 → (o.list.map Prod.fst).Nodup → (∀ e ∈ o.list, e.2 ≤ 1022) →
        readOption t = some o)) ∧
  (∀ (left : FlashLeft) (s : State) (op : StoreOp) (n : Nat), leftWf left = true → MemoriesWf s →
    s.store.running = some op → op.job = .release n → op.progress < n →
    let k := op.progress
    let outside (t : State) : Prop := ∀ x, x < 65536 * k ∨ 65536 * k + 65536 ≤ x →
      readByte flashDefault t.flash x = readByte flashDefault s.flash x
    (∃ t, exec (.flashSectorDone false left) s = .next t ∧ outside t ∧
      (∀ i, i < 65536 → readByte flashDefault t.flash (65536 * k + i) = 0xFF#8) ∧ k ∈ t.store.erased ∧
      t.store.running = some { op with progress := k + 1 } ∧ t.store.last = s.store.last ∧
      t.store.option = (if k + 1 = n then ⟨0, false, false, []⟩ else s.store.option)) ∧
    ∃ t, exec (.flashSectorDone true left) s = .next t ∧ outside t ∧ k ∉ t.store.erased ∧ t.store.running = none ∧
      t.store.option = s.store.option ∧ t.store.last = some ⟨.release, op.requester, .eraseFail, k, .value k⟩)

/-! ### Laws of the device -/

/-- R117: every fade envelope stays in 0..65,536 at every step, and a fade's start and target too. -/
def Obligations.EnvelopesStayInRange : Prop := ∀ s t : State, EnvelopesOk s → step s = .next t → EnvelopesOk t

/-- R153: a window that is OPEN names a layer, and that layer is LIVE, REDO or PREPARING, at every step. -/
def Obligations.OpenWindowsNameLayers : Prop := ∀ s t : State, WindowsOk s → step s = .next t → WindowsOk t

/-- R172: no step erases or programs a byte of a sector below the floor unless a RELEASE runs. -/
def Obligations.ProtectedSectorsStay : Prop :=
  ∀ s t : State, FloorOk s → HeldOk s → MemoriesWf s → step s = .next t →
    FloorOk t ∧ (releasing s = false → ∀ x, x < 65536 * s.store.option.floor →
      readByte flashDefault t.flash x = readByte flashDefault s.flash x)

/-- R104, R105, R107, R108, R109: the mix set holds the LIVE unshed layers on the stacks of the tracks that are PLAYING,
OVERDUB or MUTED with a fade running, and the fade reserve, each layer once; an accumulator is the sum of the contributions of
those whose track names the bus; a layer that is not audible at its index contributes 0, any other its sample through the five
rounding steps. R111, R112: every output sample lies within the ceiling in force, a level beyond it taking the ceiling, and
the counter of a bus rises by 1 in a frame that the clamp changes, up to 65,535, with CLIP to all stations. R114: each lane
carries the same pair, MAIN left and CUE right, in the upper 24 bits of its slots, one frame late; in a reset it is low. R116:
the curve is floor(Num × 65,536 / (SL × W)), all-zero slopes counted as 1, and so 65,536 before FL where the last slopes in
force are 0 (the model's reading, log 52). R116, R117: a value on the way from A to B lies
between them, the curve lies in 0..65,536, a fade advances by one step of it, at FL its end falls due, and one that started at
this very boundary stays at its start (R119; the marks are the model's own, log 38). R4: GRID follows the position. R186:
ATN_N is low while the station's event set and mask have a class in common. -/
def Obligations.OutputsAndFadesStayInRange : Prop :=
  (∀ (s : State) (l : LayerId), l ∈ mixSet s ↔ l ∈ s.budget.reserve ∨
       ∃ t, l ∈ (s.track t).stack ∧ (s.layer l).state = .live ∧ (s.layer l).shed = false ∧
         ((s.track t).state = .playing ∨ (s.track t).state = .overdub ∨
           ((s.track t).state = .muted ∧ (s.track t).fade ≠ none))) ∧
  (∀ s : State, TracksOk s → s.budget.reserve.Nodup → (mixSet s).Nodup) ∧
  (∀ (s : State) (b : Bus), accumulator s b = (((mixSet s).filter fun l => (s.layer l).track.any fun t =>
       (s.track t).bus == b || (s.track t).bus == .both).map (contribution s)).sum) ∧
  (∀ (s : State) (l : LayerId),
       let x := s.layer l
       (x.track = none → contribution s l = 0) ∧
       ∀ t, x.track = some t →
         let y := s.track t
         let i := (((y.pos : Int) - x.offset) % x.length).toNat
         let u := (((i : Int) - x.spanStart) % x.length).toNat
         let r : Nat := if x.spanLen = x.length then 65536 else min (u + 1) (min (x.spanLen - u) 64) * 1024
         let step (p q : Int) : Int := (p * q + 32768) / 65536
         let sample : BitVec 24 := (layerWord s l i).truncate 24
         (x.spanLen ≤ u → contribution s l = 0) ∧
         (u < x.spanLen →
           contribution s l = step sample.toInt (step (step (step (step x.gain y.gain) x.env) y.env) r))) ∧
  (∀ s : State,
       let t := mixFrame s
       let c : Int := s.budget.ceiling
       let y (b : Bus) (g : Nat) : Int := (accumulator s b * g + 32768) / 65536
       let ym := y .main s.mixer.mainGain
       let yc := y .cue s.mixer.cueGain
       (-c ≤ t.mixer.pair.main ∧ t.mixer.pair.main ≤ c) ∧ (-c ≤ t.mixer.pair.cue ∧ t.mixer.pair.cue ≤ c) ∧
       (c < ym → t.mixer.pair.main = c) ∧ (ym < -c → t.mixer.pair.main = -c) ∧
       (c < yc → t.mixer.pair.cue = c) ∧ (yc < -c → t.mixer.pair.cue = -c) ∧
       (-c ≤ ym → ym ≤ c → t.mixer.pair.main = ym ∧ t.mixer.mainClips = s.mixer.mainClips) ∧
       (-c ≤ yc → yc ≤ c → t.mixer.pair.cue = yc ∧ t.mixer.cueClips = s.mixer.cueClips) ∧
       (ym < -c ∨ c < ym → t.mixer.mainClips = (if s.mixer.mainClips < 65535 then s.mixer.mainClips + 1 else s.mixer.mainClips)) ∧
       (yc < -c ∨ c < yc → t.mixer.cueClips = (if s.mixer.cueClips < 65535 then s.mixer.cueClips + 1 else s.mixer.cueClips)) ∧
       (ym < -c ∨ c < ym ∨ yc < -c ∨ c < yc → ∀ st, (t.attention.events.get st).getLsbD 11 = true)) ∧
  (∀ (s : State) (st : Station),
       (s.mixer.clocks = true → aoutSlots s st = ((BitVec.ofInt 24 s.mixer.lane.main) ++ 0#8, (BitVec.ofInt 24 s.mixer.lane.cue) ++ 0#8)) ∧
       (s.mixer.clocks = false → aoutSlots s st = (0#32, 0#32)) ∧ (shiftLane s).mixer.lane = s.mixer.pair) ∧
  ((∀ (m : Mixer) (t : Nat), t < 16 * m.segLen →
       let ms := if m.slopes.toList.all (· == 0) then List.replicate 16 1 else m.slopes.toList
       let k := t / m.segLen
       curve m t = (m.segLen * (ms.take k).sum + t % m.segLen * ms.getD k 0) * 65536 / (m.segLen * ms.sum)) ∧
   (∀ (m : Mixer) (t : Nat), curve m t ≤ 65536) ∧ (∀ (m : Mixer), curve m (fadeLength m) = 65536) ∧
       ∀ a b c : Nat, c ≤ 65536 → min a b ≤ fadeValue a b c ∧ fadeValue a b c ≤ max a b) ∧
  (∀ (m : Mixer) (env : Nat) (f : Fade),
       (f.fresh = true → advanceFade m env (some f) = (env, some { f with fresh := false })) ∧
       (f.fresh = false → f.t + 1 < 16 * m.segLen → advanceFade m env (some f) =
         (((f.start : Int) + Int.tdiv (((f.target : Int) - f.start) * curve m (f.t + 1)) 65536).toNat,
           some { f with t := f.t + 1 })) ∧
       (f.fresh = false → 16 * m.segLen ≤ f.t + 1 →
         advanceFade m env (some f) = (env, some { f with t := f.t + 1, reached := true }))) ∧
  (∀ s : State, (s.grid.tempo = none → gridPin s = false) ∧
       ∀ g, s.grid.tempo = some g → (gridPin s = true ↔ (g.beat = 0 ∧ g.f < 192) ∨ (g.beat ≠ 0 ∧ g.f < 48))) ∧
  (∀ (s : State) (st : Station), atnLow s st = true ↔
       ∃ i, i < 14 ∧ (s.attention.events.get st).getLsbD i = true ∧ (s.attention.masks.get st).getLsbD i = true)

/-- R56: the edge ramp factor is 65,536 for a layer whose span is its length, else min(u + 1, sl − u, 64) × 1,024 at
the distance u = (i − sp) mod length into the span. -/
def Obligations.EdgeRampFollowsSpan : Prop :=
  ∀ (x : Layer) (i : Nat), 0 < x.length → i < x.length → x.spanStart < x.length → x.spanLen ≤ x.length →
    let u := (i + x.length - x.spanStart) % x.length
    (x.spanLen = x.length → edgeRamp x i = 65536) ∧
    (x.spanLen < x.length → u < x.spanLen → edgeRamp x i = min (u + 1) (min (x.spanLen - u) 64) * 1024)

/-- R127: the count of counted streams never exceeds the budget of the band in force. It holds after reset, and every step
keeps it, with the agreement of tracks, layers, heads, fold job and start-up that it rests on (RosterOk). R133: an admitted
stream fits: after the sheds that admission makes, the count and the new stream lie within the budget in force. -/
def Obligations.AdmissionKeepsBudget : Prop :=
  RosterOk State.reset ∧
  (∀ s t : State, RosterOk s → QueueOk s → HeldOk s → step s = .next t → RosterOk t) ∧
  ∀ s t : State, admitOne s = some t → streamCount t + 1 ≤ t.budget.limit ∧ t.budget.limit = s.budget.limit
end

