-- ==== Sys2Proof/Laws/Memory.lean ====
section
/-! SUPPORT. The byte memories: what a write does to every read, and that every memory operation keeps the canonical form. -/

namespace Sys2Proof.Machine

/-- An address below every entry is unlisted. -/
theorem readByte_absent (d : Byte) (m : List Host.Cell) (z : Nat) (h : ∀ e ∈ m, z < e.1) : readByte d m z = d := by
  induction m with
  | nil => rfl
  | cons e rest ih =>
    have he := h e (List.mem_cons_self ..)
    simp only [readByte]
    rw [if_neg (by omega)]
    exact ih fun a ha => h a (List.mem_cons_of_mem _ ha)

/-- What a write of one byte does to every read. -/
theorem readByte_writeByte (d : Byte) (m : List Host.Cell) (x : Nat) (v : Byte) (y : Nat)
    (h : m.Pairwise fun a b => a.1 < b.1) :
    readByte d (writeByte d m x v) y = if y = x then v else readByte d m y := by
  induction m with
  | nil =>
    simp only [writeByte]
    split
    · next e => simp only [readByte]; split <;> simp_all
    · simp only [readByte]
  | cons c rest ih =>
    obtain ⟨hc, hr⟩ := List.pairwise_cons.1 h
    have ih := ih hr
    have absent := fun z (hz : z ≤ c.1) => readByte_absent d rest z fun e he => Nat.lt_of_le_of_lt hz (hc e he)
    simp only [writeByte]
    split
    · next hlt =>
      split
      · next hv =>
        simp only [readByte]
        split
        · next e => rw [if_neg (by omega)]
        · split
          · next e => rw [absent y (by omega), hv]
          · rfl
      · simp only [readByte]
    · next hnl =>
      split
      · next hx =>
        split
        · next hv =>
          simp only [readByte]
          split
          · next e => rw [absent y (by omega), hv]
          · next e => rw [if_neg (by omega)]
        · simp only [readByte]
          by_cases e : y = x
          · simp [e]
          · rw [if_neg e, if_neg e, if_neg (by omega)]
      · simp only [readByte, ih]
        by_cases e : y = c.1
        · rw [if_pos e, if_pos e, if_neg (by omega)]
        · simp [e]

theorem mem_writeByte (d : Byte) (m : List Host.Cell) (x : Nat) (v : Byte) (c : Host.Cell)
    (h : c ∈ writeByte d m x v) : c ∈ m ∨ (c = (x, v) ∧ v ≠ d) := by
  induction m with
  | nil =>
    simp only [writeByte] at h
    split at h <;> simp_all
  | cons e rest ih =>
    simp only [writeByte] at h
    split at h
    · split at h
      · exact .inl h
      · next hv =>
        rcases List.mem_cons.1 h with h | h
        · exact .inr ⟨h, hv⟩
        · exact .inl h
    · split at h
      · split at h
        · exact .inl (List.mem_cons_of_mem _ h)
        · next hv =>
          rcases List.mem_cons.1 h with h | h
          · exact .inr ⟨h, hv⟩
          · exact .inl (List.mem_cons_of_mem _ h)
      · rcases List.mem_cons.1 h with h | h
        · exact .inl (h ▸ List.mem_cons_self ..)
        · rcases ih h with h | h
          · exact .inl (List.mem_cons_of_mem _ h)
          · exact .inr h

theorem writeByte_rising (d : Byte) (m : List Host.Cell) (x : Nat) (v : Byte)
    (h : m.Pairwise fun a b => a.1 < b.1) : (writeByte d m x v).Pairwise fun a b => a.1 < b.1 := by
  induction m with
  | nil => simp only [writeByte]; split <;> simp
  | cons c rest ih =>
    obtain ⟨hc, hr⟩ := List.pairwise_cons.1 h
    simp only [writeByte]
    split
    · next hlt =>
      split
      · exact h
      · refine List.pairwise_cons.2 ⟨fun a ha => ?_, h⟩
        rcases List.mem_cons.1 ha with ha | ha
        · exact ha ▸ hlt
        · exact Nat.lt_trans hlt (hc a ha)
    · split
      · next hx =>
        split
        · exact hr
        · exact List.pairwise_cons.2 ⟨fun a ha => hx ▸ hc a ha, hr⟩
      · refine List.pairwise_cons.2 ⟨fun a ha => ?_, ih hr⟩
        rcases mem_writeByte d rest x v a ha with ha | ⟨ha, -⟩
        · exact hc a ha
        · rw [ha]
          show c.1 < x
          omega

/-- A write keeps the canonical form. -/
theorem writeByte_wf (d : Byte) (m : List Host.Cell) (x : Nat) (v : Byte) (h : Memory.wf d m) :
    Memory.wf d (writeByte d m x v) := by
  refine ⟨writeByte_rising d m x v h.1, fun c hc => ?_⟩
  rcases mem_writeByte d m x v c hc with hc | ⟨hc, hv⟩
  · exact h.2 c hc
  · rw [hc]; exact hv

theorem clearBytes_wf (d : Byte) (m : List Host.Cell) (b n : Nat) (h : Memory.wf d m) :
    Memory.wf d (clearBytes m b n) :=
  ⟨h.1.filter _, fun c hc => h.2 c (List.mem_filter.1 hc).1⟩

theorem writeBytes_wf (d : Byte) (bs : List Byte) (m : List Host.Cell) (a : Nat) (h : Memory.wf d m) :
    Memory.wf d (writeBytes d m a bs) := by
  induction bs generalizing m a with
  | nil => exact h
  | cons b rest ih => exact ih _ _ (writeByte_wf d m a b h)

theorem writeWord_wf (d : Byte) (m : List Host.Cell) (a : Nat) (w : Word) (h : Memory.wf d m) :
    Memory.wf d (writeWord d m a w) := writeBytes_wf d _ m a h

/-- What clearing does to every read. -/
theorem readByte_clearBytes (d : Byte) (m : List Host.Cell) (b n y : Nat) :
    readByte d (clearBytes m b n) y = if b ≤ y ∧ y < b + n then d else readByte d m y := by
  induction m with
  | nil => simp [clearBytes, readByte]
  | cons c rest ih =>
    simp only [clearBytes] at ih ⊢
    simp only [List.filter_cons]
    split
    · next hk =>
      simp only [Bool.or_eq_true, decide_eq_true_eq] at hk
      simp only [readByte, ih]
      by_cases e : y = c.1
      · rw [if_pos e, if_pos e, if_neg (by omega)]
      · simp [e]
    · next hk =>
      simp only [Bool.or_eq_true, decide_eq_true_eq] at hk
      rw [ih]
      by_cases e : y = c.1
      · rw [if_pos (by omega), if_pos (by omega)]
      · simp only [readByte, if_neg e]

/-- Bytes below the first address written, or past the last, are left. -/
theorem readByte_writeBytes_out (d : Byte) (bs : List Byte) (m : List Host.Cell) (a y : Nat) (h : Memory.wf d m)
    (out : y < a ∨ a + bs.length ≤ y) : readByte d (writeBytes d m a bs) y = readByte d m y := by
  induction bs generalizing m a with
  | nil => rfl
  | cons b rest ih =>
    simp only [List.length_cons] at out
    simp only [writeBytes]
    rw [ih _ _ (writeByte_wf d m a b h) (by omega), readByte_writeByte d m a b y h.1, if_neg (by omega)]

/-- The byte at each address written. -/
theorem readByte_writeBytes_in (d : Byte) (bs : List Byte) (m : List Host.Cell) (a i : Nat) (h : Memory.wf d m)
    (hi : i < bs.length) : readByte d (writeBytes d m a bs) (a + i) = bs[i] := by
  induction bs generalizing m a i with
  | nil => exact absurd hi (by simp)
  | cons b rest ih =>
    simp only [writeBytes]
    cases i with
    | zero =>
      rw [readByte_writeBytes_out d rest _ (a + 1) (a + 0) (writeByte_wf d m a b h) (by omega),
        readByte_writeByte d m a b _ h.1]
      simp
    | succ j =>
      have e : a + (j + 1) = a + 1 + j := by omega
      rw [e, ih _ (a + 1) j (writeByte_wf d m a b h) (by simpa using hi)]
      simp

theorem leBytes_length (n v : Nat) : (leBytes n v).length = n := by
  induction n generalizing v with
  | zero => rfl
  | succ n ih => simp [leBytes, ih]

theorem leValue_leBytes (n v : Nat) : leValue (leBytes n v) = v % 256 ^ n := by
  induction n generalizing v with
  | zero => simp [leBytes, leValue, Nat.mod_one]
  | succ n ih =>
    show (BitVec.ofNat 8 v).toNat + 256 * leValue (leBytes n (v / 256)) = _
    rw [ih, BitVec.toNat_ofNat, @Nat.pow_succ' 256 n, @Nat.mod_mul 256 (256 ^ n) v]

/-- A word written is the word read. -/
theorem readWord_writeWord (d : Byte) (m : List Host.Cell) (a : Nat) (w : Word) (h : Memory.wf d m) :
    readWord d (writeWord d m a w) a = w := by
  have rd : ∀ i (hi : i < 4), readByte d (writeWord d m a w) (a + i) =
      (leBytes 4 w.toNat)[i]'(by simpa [leBytes_length] using hi) := fun i hi =>
    readByte_writeBytes_in d _ m a i h (by simpa [leBytes_length] using hi)
  have e : [readByte d (writeWord d m a w) a, readByte d (writeWord d m a w) (a + 1),
      readByte d (writeWord d m a w) (a + 2), readByte d (writeWord d m a w) (a + 3)] = leBytes 4 w.toNat := by
    rw [rd 1 (by omega), rd 2 (by omega), rd 3 (by omega)]
    have := rd 0 (by omega)
    rw [Nat.add_zero] at this
    rw [this]
    rfl
  unfold readWord
  rw [e, leValue_leBytes]
  apply BitVec.eq_of_toNat_eq
  rw [BitVec.toNat_ofNat]
  have := w.isLt
  omega

/-- A word elsewhere is left. -/
theorem readWord_writeWord_ne (d : Byte) (m : List Host.Cell) (a b : Nat) (w : Word) (h : Memory.wf d m)
    (out : b + 4 ≤ a ∨ a + 4 ≤ b) : readWord d (writeWord d m a w) b = readWord d m b := by
  have rd : ∀ i, i < 4 → readByte d (writeWord d m a w) (b + i) = readByte d m (b + i) := fun i hi =>
    readByte_writeBytes_out d _ m a _ h (by rw [leBytes_length]; omega)
  unfold readWord
  rw [rd 1 (by omega), rd 2 (by omega), rd 3 (by omega)]
  have := rd 0 (by omega)
  rw [Nat.add_zero] at this
  rw [this]

end Sys2Proof.Machine
end

