-- ==== Sys2Proof/Laws/State.lean ====
section
/-! SUPPORT. Updates of State and its reads: one lemma per field per update, true by rfl, and the read-after-write lemmas of
the vectors. No later proof unfolds a record update. -/

namespace Sys2Proof.Machine

/-! ### setTrack -/

@[simp] theorem setTrack_grid (s : State) (t : TrackId) (x : Track) : (s.setTrack t x).grid = s.grid := rfl
@[simp] theorem setTrack_queue (s : State) (t : TrackId) (x : Track) : (s.setTrack t x).queue = s.queue := rfl
@[simp] theorem setTrack_layers (s : State) (t : TrackId) (x : Track) : (s.setTrack t x).layers = s.layers := rfl
@[simp] theorem setTrack_arbiter (s : State) (t : TrackId) (x : Track) : (s.setTrack t x).arbiter = s.arbiter := rfl
@[simp] theorem setTrack_rings (s : State) (t : TrackId) (x : Track) : (s.setTrack t x).rings = s.rings := rfl
@[simp] theorem setTrack_pool (s : State) (t : TrackId) (x : Track) : (s.setTrack t x).pool = s.pool := rfl
@[simp] theorem setTrack_dram (s : State) (t : TrackId) (x : Track) : (s.setTrack t x).dram = s.dram := rfl
@[simp] theorem setTrack_mixer (s : State) (t : TrackId) (x : Track) : (s.setTrack t x).mixer = s.mixer := rfl
@[simp] theorem setTrack_budget (s : State) (t : TrackId) (x : Track) : (s.setTrack t x).budget = s.budget := rfl
@[simp] theorem setTrack_fold (s : State) (t : TrackId) (x : Track) : (s.setTrack t x).fold = s.fold := rfl
@[simp] theorem setTrack_windows (s : State) (t : TrackId) (x : Track) : (s.setTrack t x).windows = s.windows := rfl
@[simp] theorem setTrack_store (s : State) (t : TrackId) (x : Track) : (s.setTrack t x).store = s.store := rfl
@[simp] theorem setTrack_flash (s : State) (t : TrackId) (x : Track) : (s.setTrack t x).flash = s.flash := rfl
@[simp] theorem setTrack_ports (s : State) (t : TrackId) (x : Track) : (s.setTrack t x).ports = s.ports := rfl
@[simp] theorem setTrack_attention (s : State) (t : TrackId) (x : Track) : (s.setTrack t x).attention = s.attention := rfl
@[simp] theorem setTrack_resets (s : State) (t : TrackId) (x : Track) : (s.setTrack t x).resets = s.resets := rfl
@[simp] theorem setTrack_freeCount (s : State) (t : TrackId) (x : Track) : (s.setTrack t x).freeCount = s.freeCount := rfl
@[simp] theorem setTrack_pending (s : State) (t : TrackId) (x : Track) : (s.setTrack t x).pending = s.pending := rfl

/-! ### setLayer -/

@[simp] theorem setLayer_grid (s : State) (l : LayerId) (x : Layer) : (s.setLayer l x).grid = s.grid := rfl
@[simp] theorem setLayer_tracks (s : State) (l : LayerId) (x : Layer) : (s.setLayer l x).tracks = s.tracks := rfl
@[simp] theorem setLayer_queue (s : State) (l : LayerId) (x : Layer) : (s.setLayer l x).queue = s.queue := rfl
@[simp] theorem setLayer_arbiter (s : State) (l : LayerId) (x : Layer) : (s.setLayer l x).arbiter = s.arbiter := rfl
@[simp] theorem setLayer_rings (s : State) (l : LayerId) (x : Layer) : (s.setLayer l x).rings = s.rings := rfl
@[simp] theorem setLayer_pool (s : State) (l : LayerId) (x : Layer) : (s.setLayer l x).pool = s.pool := rfl
@[simp] theorem setLayer_dram (s : State) (l : LayerId) (x : Layer) : (s.setLayer l x).dram = s.dram := rfl
@[simp] theorem setLayer_mixer (s : State) (l : LayerId) (x : Layer) : (s.setLayer l x).mixer = s.mixer := rfl
@[simp] theorem setLayer_budget (s : State) (l : LayerId) (x : Layer) : (s.setLayer l x).budget = s.budget := rfl
@[simp] theorem setLayer_fold (s : State) (l : LayerId) (x : Layer) : (s.setLayer l x).fold = s.fold := rfl
@[simp] theorem setLayer_windows (s : State) (l : LayerId) (x : Layer) : (s.setLayer l x).windows = s.windows := rfl
@[simp] theorem setLayer_store (s : State) (l : LayerId) (x : Layer) : (s.setLayer l x).store = s.store := rfl
@[simp] theorem setLayer_flash (s : State) (l : LayerId) (x : Layer) : (s.setLayer l x).flash = s.flash := rfl
@[simp] theorem setLayer_ports (s : State) (l : LayerId) (x : Layer) : (s.setLayer l x).ports = s.ports := rfl
@[simp] theorem setLayer_attention (s : State) (l : LayerId) (x : Layer) : (s.setLayer l x).attention = s.attention := rfl
@[simp] theorem setLayer_resets (s : State) (l : LayerId) (x : Layer) : (s.setLayer l x).resets = s.resets := rfl
@[simp] theorem setLayer_freeCount (s : State) (l : LayerId) (x : Layer) : (s.setLayer l x).freeCount = s.freeCount := rfl
@[simp] theorem setLayer_pending (s : State) (l : LayerId) (x : Layer) : (s.setLayer l x).pending = s.pending := rfl

/-! ### setHead -/

@[simp] theorem setHead_grid (s : State) (h : HeadId) (x : Option Held) : (s.setHead h x).grid = s.grid := rfl
@[simp] theorem setHead_tracks (s : State) (h : HeadId) (x : Option Held) : (s.setHead h x).tracks = s.tracks := rfl
@[simp] theorem setHead_queue (s : State) (h : HeadId) (x : Option Held) : (s.setHead h x).queue = s.queue := rfl
@[simp] theorem setHead_layers (s : State) (h : HeadId) (x : Option Held) : (s.setHead h x).layers = s.layers := rfl
@[simp] theorem setHead_rings (s : State) (h : HeadId) (x : Option Held) : (s.setHead h x).rings = s.rings := rfl
@[simp] theorem setHead_pool (s : State) (h : HeadId) (x : Option Held) : (s.setHead h x).pool = s.pool := rfl
@[simp] theorem setHead_dram (s : State) (h : HeadId) (x : Option Held) : (s.setHead h x).dram = s.dram := rfl
@[simp] theorem setHead_mixer (s : State) (h : HeadId) (x : Option Held) : (s.setHead h x).mixer = s.mixer := rfl
@[simp] theorem setHead_budget (s : State) (h : HeadId) (x : Option Held) : (s.setHead h x).budget = s.budget := rfl
@[simp] theorem setHead_fold (s : State) (h : HeadId) (x : Option Held) : (s.setHead h x).fold = s.fold := rfl
@[simp] theorem setHead_windows (s : State) (h : HeadId) (x : Option Held) : (s.setHead h x).windows = s.windows := rfl
@[simp] theorem setHead_store (s : State) (h : HeadId) (x : Option Held) : (s.setHead h x).store = s.store := rfl
@[simp] theorem setHead_flash (s : State) (h : HeadId) (x : Option Held) : (s.setHead h x).flash = s.flash := rfl
@[simp] theorem setHead_ports (s : State) (h : HeadId) (x : Option Held) : (s.setHead h x).ports = s.ports := rfl
@[simp] theorem setHead_attention (s : State) (h : HeadId) (x : Option Held) : (s.setHead h x).attention = s.attention := rfl
@[simp] theorem setHead_resets (s : State) (h : HeadId) (x : Option Held) : (s.setHead h x).resets = s.resets := rfl
@[simp] theorem setHead_freeCount (s : State) (h : HeadId) (x : Option Held) : (s.setHead h x).freeCount = s.freeCount := rfl
@[simp] theorem setHead_pending (s : State) (h : HeadId) (x : Option Held) : (s.setHead h x).pending = s.pending := rfl

/-! ### setWindow -/

@[simp] theorem setWindow_grid (s : State) (st : Station) (w : Window) : (s.setWindow st w).grid = s.grid := rfl
@[simp] theorem setWindow_tracks (s : State) (st : Station) (w : Window) : (s.setWindow st w).tracks = s.tracks := rfl
@[simp] theorem setWindow_queue (s : State) (st : Station) (w : Window) : (s.setWindow st w).queue = s.queue := rfl
@[simp] theorem setWindow_layers (s : State) (st : Station) (w : Window) : (s.setWindow st w).layers = s.layers := rfl
@[simp] theorem setWindow_arbiter (s : State) (st : Station) (w : Window) : (s.setWindow st w).arbiter = s.arbiter := rfl
@[simp] theorem setWindow_rings (s : State) (st : Station) (w : Window) : (s.setWindow st w).rings = s.rings := rfl
@[simp] theorem setWindow_pool (s : State) (st : Station) (w : Window) : (s.setWindow st w).pool = s.pool := rfl
@[simp] theorem setWindow_dram (s : State) (st : Station) (w : Window) : (s.setWindow st w).dram = s.dram := rfl
@[simp] theorem setWindow_mixer (s : State) (st : Station) (w : Window) : (s.setWindow st w).mixer = s.mixer := rfl
@[simp] theorem setWindow_budget (s : State) (st : Station) (w : Window) : (s.setWindow st w).budget = s.budget := rfl
@[simp] theorem setWindow_fold (s : State) (st : Station) (w : Window) : (s.setWindow st w).fold = s.fold := rfl
@[simp] theorem setWindow_store (s : State) (st : Station) (w : Window) : (s.setWindow st w).store = s.store := rfl
@[simp] theorem setWindow_flash (s : State) (st : Station) (w : Window) : (s.setWindow st w).flash = s.flash := rfl
@[simp] theorem setWindow_ports (s : State) (st : Station) (w : Window) : (s.setWindow st w).ports = s.ports := rfl
@[simp] theorem setWindow_attention (s : State) (st : Station) (w : Window) : (s.setWindow st w).attention = s.attention := rfl
@[simp] theorem setWindow_resets (s : State) (st : Station) (w : Window) : (s.setWindow st w).resets = s.resets := rfl
@[simp] theorem setWindow_freeCount (s : State) (st : Station) (w : Window) : (s.setWindow st w).freeCount = s.freeCount := rfl
@[simp] theorem setWindow_pending (s : State) (st : Station) (w : Window) : (s.setWindow st w).pending = s.pending := rfl

/-! ### setPort -/

@[simp] theorem setPort_grid (s : State) (st : Station) (p : Port) : (s.setPort st p).grid = s.grid := rfl
@[simp] theorem setPort_tracks (s : State) (st : Station) (p : Port) : (s.setPort st p).tracks = s.tracks := rfl
@[simp] theorem setPort_queue (s : State) (st : Station) (p : Port) : (s.setPort st p).queue = s.queue := rfl
@[simp] theorem setPort_layers (s : State) (st : Station) (p : Port) : (s.setPort st p).layers = s.layers := rfl
@[simp] theorem setPort_arbiter (s : State) (st : Station) (p : Port) : (s.setPort st p).arbiter = s.arbiter := rfl
@[simp] theorem setPort_rings (s : State) (st : Station) (p : Port) : (s.setPort st p).rings = s.rings := rfl
@[simp] theorem setPort_pool (s : State) (st : Station) (p : Port) : (s.setPort st p).pool = s.pool := rfl
@[simp] theorem setPort_dram (s : State) (st : Station) (p : Port) : (s.setPort st p).dram = s.dram := rfl
@[simp] theorem setPort_mixer (s : State) (st : Station) (p : Port) : (s.setPort st p).mixer = s.mixer := rfl
@[simp] theorem setPort_budget (s : State) (st : Station) (p : Port) : (s.setPort st p).budget = s.budget := rfl
@[simp] theorem setPort_fold (s : State) (st : Station) (p : Port) : (s.setPort st p).fold = s.fold := rfl
@[simp] theorem setPort_windows (s : State) (st : Station) (p : Port) : (s.setPort st p).windows = s.windows := rfl
@[simp] theorem setPort_store (s : State) (st : Station) (p : Port) : (s.setPort st p).store = s.store := rfl
@[simp] theorem setPort_flash (s : State) (st : Station) (p : Port) : (s.setPort st p).flash = s.flash := rfl
@[simp] theorem setPort_attention (s : State) (st : Station) (p : Port) : (s.setPort st p).attention = s.attention := rfl
@[simp] theorem setPort_resets (s : State) (st : Station) (p : Port) : (s.setPort st p).resets = s.resets := rfl
@[simp] theorem setPort_freeCount (s : State) (st : Station) (p : Port) : (s.setPort st p).freeCount = s.freeCount := rfl
@[simp] theorem setPort_pending (s : State) (st : Station) (p : Port) : (s.setPort st p).pending = s.pending := rfl

/-! ### modTrack -/

@[simp] theorem modTrack_grid (s : State) (t : TrackId) (f : Track → Track) : (s.modTrack t f).grid = s.grid := rfl
@[simp] theorem modTrack_queue (s : State) (t : TrackId) (f : Track → Track) : (s.modTrack t f).queue = s.queue := rfl
@[simp] theorem modTrack_layers (s : State) (t : TrackId) (f : Track → Track) : (s.modTrack t f).layers = s.layers := rfl
@[simp] theorem modTrack_arbiter (s : State) (t : TrackId) (f : Track → Track) : (s.modTrack t f).arbiter = s.arbiter := rfl
@[simp] theorem modTrack_rings (s : State) (t : TrackId) (f : Track → Track) : (s.modTrack t f).rings = s.rings := rfl
@[simp] theorem modTrack_pool (s : State) (t : TrackId) (f : Track → Track) : (s.modTrack t f).pool = s.pool := rfl
@[simp] theorem modTrack_dram (s : State) (t : TrackId) (f : Track → Track) : (s.modTrack t f).dram = s.dram := rfl
@[simp] theorem modTrack_mixer (s : State) (t : TrackId) (f : Track → Track) : (s.modTrack t f).mixer = s.mixer := rfl
@[simp] theorem modTrack_budget (s : State) (t : TrackId) (f : Track → Track) : (s.modTrack t f).budget = s.budget := rfl
@[simp] theorem modTrack_fold (s : State) (t : TrackId) (f : Track → Track) : (s.modTrack t f).fold = s.fold := rfl
@[simp] theorem modTrack_windows (s : State) (t : TrackId) (f : Track → Track) : (s.modTrack t f).windows = s.windows := rfl
@[simp] theorem modTrack_store (s : State) (t : TrackId) (f : Track → Track) : (s.modTrack t f).store = s.store := rfl
@[simp] theorem modTrack_flash (s : State) (t : TrackId) (f : Track → Track) : (s.modTrack t f).flash = s.flash := rfl
@[simp] theorem modTrack_ports (s : State) (t : TrackId) (f : Track → Track) : (s.modTrack t f).ports = s.ports := rfl
@[simp] theorem modTrack_attention (s : State) (t : TrackId) (f : Track → Track) : (s.modTrack t f).attention = s.attention := rfl
@[simp] theorem modTrack_resets (s : State) (t : TrackId) (f : Track → Track) : (s.modTrack t f).resets = s.resets := rfl
@[simp] theorem modTrack_freeCount (s : State) (t : TrackId) (f : Track → Track) : (s.modTrack t f).freeCount = s.freeCount := rfl
@[simp] theorem modTrack_pending (s : State) (t : TrackId) (f : Track → Track) : (s.modTrack t f).pending = s.pending := rfl

/-! ### modLayer -/

@[simp] theorem modLayer_grid (s : State) (l : LayerId) (f : Layer → Layer) : (s.modLayer l f).grid = s.grid := rfl
@[simp] theorem modLayer_tracks (s : State) (l : LayerId) (f : Layer → Layer) : (s.modLayer l f).tracks = s.tracks := rfl
@[simp] theorem modLayer_queue (s : State) (l : LayerId) (f : Layer → Layer) : (s.modLayer l f).queue = s.queue := rfl
@[simp] theorem modLayer_arbiter (s : State) (l : LayerId) (f : Layer → Layer) : (s.modLayer l f).arbiter = s.arbiter := rfl
@[simp] theorem modLayer_rings (s : State) (l : LayerId) (f : Layer → Layer) : (s.modLayer l f).rings = s.rings := rfl
@[simp] theorem modLayer_pool (s : State) (l : LayerId) (f : Layer → Layer) : (s.modLayer l f).pool = s.pool := rfl
@[simp] theorem modLayer_dram (s : State) (l : LayerId) (f : Layer → Layer) : (s.modLayer l f).dram = s.dram := rfl
@[simp] theorem modLayer_mixer (s : State) (l : LayerId) (f : Layer → Layer) : (s.modLayer l f).mixer = s.mixer := rfl
@[simp] theorem modLayer_budget (s : State) (l : LayerId) (f : Layer → Layer) : (s.modLayer l f).budget = s.budget := rfl
@[simp] theorem modLayer_fold (s : State) (l : LayerId) (f : Layer → Layer) : (s.modLayer l f).fold = s.fold := rfl
@[simp] theorem modLayer_windows (s : State) (l : LayerId) (f : Layer → Layer) : (s.modLayer l f).windows = s.windows := rfl
@[simp] theorem modLayer_store (s : State) (l : LayerId) (f : Layer → Layer) : (s.modLayer l f).store = s.store := rfl
@[simp] theorem modLayer_flash (s : State) (l : LayerId) (f : Layer → Layer) : (s.modLayer l f).flash = s.flash := rfl
@[simp] theorem modLayer_ports (s : State) (l : LayerId) (f : Layer → Layer) : (s.modLayer l f).ports = s.ports := rfl
@[simp] theorem modLayer_attention (s : State) (l : LayerId) (f : Layer → Layer) : (s.modLayer l f).attention = s.attention := rfl
@[simp] theorem modLayer_resets (s : State) (l : LayerId) (f : Layer → Layer) : (s.modLayer l f).resets = s.resets := rfl
@[simp] theorem modLayer_freeCount (s : State) (l : LayerId) (f : Layer → Layer) : (s.modLayer l f).freeCount = s.freeCount := rfl
@[simp] theorem modLayer_pending (s : State) (l : LayerId) (f : Layer → Layer) : (s.modLayer l f).pending = s.pending := rfl

/-! ### raiseAll -/

@[simp] theorem raiseAll_grid (s : State) (c : EventClass) : (raiseAll c s).grid = s.grid := rfl
@[simp] theorem raiseAll_tracks (s : State) (c : EventClass) : (raiseAll c s).tracks = s.tracks := rfl
@[simp] theorem raiseAll_queue (s : State) (c : EventClass) : (raiseAll c s).queue = s.queue := rfl
@[simp] theorem raiseAll_layers (s : State) (c : EventClass) : (raiseAll c s).layers = s.layers := rfl
@[simp] theorem raiseAll_arbiter (s : State) (c : EventClass) : (raiseAll c s).arbiter = s.arbiter := rfl
@[simp] theorem raiseAll_rings (s : State) (c : EventClass) : (raiseAll c s).rings = s.rings := rfl
@[simp] theorem raiseAll_pool (s : State) (c : EventClass) : (raiseAll c s).pool = s.pool := rfl
@[simp] theorem raiseAll_dram (s : State) (c : EventClass) : (raiseAll c s).dram = s.dram := rfl
@[simp] theorem raiseAll_mixer (s : State) (c : EventClass) : (raiseAll c s).mixer = s.mixer := rfl
@[simp] theorem raiseAll_budget (s : State) (c : EventClass) : (raiseAll c s).budget = s.budget := rfl
@[simp] theorem raiseAll_fold (s : State) (c : EventClass) : (raiseAll c s).fold = s.fold := rfl
@[simp] theorem raiseAll_windows (s : State) (c : EventClass) : (raiseAll c s).windows = s.windows := rfl
@[simp] theorem raiseAll_store (s : State) (c : EventClass) : (raiseAll c s).store = s.store := rfl
@[simp] theorem raiseAll_flash (s : State) (c : EventClass) : (raiseAll c s).flash = s.flash := rfl
@[simp] theorem raiseAll_ports (s : State) (c : EventClass) : (raiseAll c s).ports = s.ports := rfl
@[simp] theorem raiseAll_resets (s : State) (c : EventClass) : (raiseAll c s).resets = s.resets := rfl
@[simp] theorem raiseAll_freeCount (s : State) (c : EventClass) : (raiseAll c s).freeCount = s.freeCount := rfl
@[simp] theorem raiseAll_pending (s : State) (c : EventClass) : (raiseAll c s).pending = s.pending := rfl

/-! ### raiseTo -/

@[simp] theorem raiseTo_grid (s : State) (st : Station) (c : EventClass) : (raiseTo st c s).grid = s.grid := rfl
@[simp] theorem raiseTo_tracks (s : State) (st : Station) (c : EventClass) : (raiseTo st c s).tracks = s.tracks := rfl
@[simp] theorem raiseTo_queue (s : State) (st : Station) (c : EventClass) : (raiseTo st c s).queue = s.queue := rfl
@[simp] theorem raiseTo_layers (s : State) (st : Station) (c : EventClass) : (raiseTo st c s).layers = s.layers := rfl
@[simp] theorem raiseTo_arbiter (s : State) (st : Station) (c : EventClass) : (raiseTo st c s).arbiter = s.arbiter := rfl
@[simp] theorem raiseTo_rings (s : State) (st : Station) (c : EventClass) : (raiseTo st c s).rings = s.rings := rfl
@[simp] theorem raiseTo_pool (s : State) (st : Station) (c : EventClass) : (raiseTo st c s).pool = s.pool := rfl
@[simp] theorem raiseTo_dram (s : State) (st : Station) (c : EventClass) : (raiseTo st c s).dram = s.dram := rfl
@[simp] theorem raiseTo_mixer (s : State) (st : Station) (c : EventClass) : (raiseTo st c s).mixer = s.mixer := rfl
@[simp] theorem raiseTo_budget (s : State) (st : Station) (c : EventClass) : (raiseTo st c s).budget = s.budget := rfl
@[simp] theorem raiseTo_fold (s : State) (st : Station) (c : EventClass) : (raiseTo st c s).fold = s.fold := rfl
@[simp] theorem raiseTo_windows (s : State) (st : Station) (c : EventClass) : (raiseTo st c s).windows = s.windows := rfl
@[simp] theorem raiseTo_store (s : State) (st : Station) (c : EventClass) : (raiseTo st c s).store = s.store := rfl
@[simp] theorem raiseTo_flash (s : State) (st : Station) (c : EventClass) : (raiseTo st c s).flash = s.flash := rfl
@[simp] theorem raiseTo_ports (s : State) (st : Station) (c : EventClass) : (raiseTo st c s).ports = s.ports := rfl
@[simp] theorem raiseTo_resets (s : State) (st : Station) (c : EventClass) : (raiseTo st c s).resets = s.resets := rfl
@[simp] theorem raiseTo_freeCount (s : State) (st : Station) (c : EventClass) : (raiseTo st c s).freeCount = s.freeCount := rfl
@[simp] theorem raiseTo_pending (s : State) (st : Station) (c : EventClass) : (raiseTo st c s).pending = s.pending := rfl

/-! ### tellDrop -/

@[simp] theorem tellDrop_grid (s : State) (st : Station) (t : TrackId) (a : Action) (r : DropReason) : (tellDrop st t a r s).grid = s.grid := rfl
@[simp] theorem tellDrop_tracks (s : State) (st : Station) (t : TrackId) (a : Action) (r : DropReason) : (tellDrop st t a r s).tracks = s.tracks := rfl
@[simp] theorem tellDrop_queue (s : State) (st : Station) (t : TrackId) (a : Action) (r : DropReason) : (tellDrop st t a r s).queue = s.queue := rfl
@[simp] theorem tellDrop_layers (s : State) (st : Station) (t : TrackId) (a : Action) (r : DropReason) : (tellDrop st t a r s).layers = s.layers := rfl
@[simp] theorem tellDrop_arbiter (s : State) (st : Station) (t : TrackId) (a : Action) (r : DropReason) : (tellDrop st t a r s).arbiter = s.arbiter := rfl
@[simp] theorem tellDrop_rings (s : State) (st : Station) (t : TrackId) (a : Action) (r : DropReason) : (tellDrop st t a r s).rings = s.rings := rfl
@[simp] theorem tellDrop_pool (s : State) (st : Station) (t : TrackId) (a : Action) (r : DropReason) : (tellDrop st t a r s).pool = s.pool := rfl
@[simp] theorem tellDrop_dram (s : State) (st : Station) (t : TrackId) (a : Action) (r : DropReason) : (tellDrop st t a r s).dram = s.dram := rfl
@[simp] theorem tellDrop_mixer (s : State) (st : Station) (t : TrackId) (a : Action) (r : DropReason) : (tellDrop st t a r s).mixer = s.mixer := rfl
@[simp] theorem tellDrop_budget (s : State) (st : Station) (t : TrackId) (a : Action) (r : DropReason) : (tellDrop st t a r s).budget = s.budget := rfl
@[simp] theorem tellDrop_fold (s : State) (st : Station) (t : TrackId) (a : Action) (r : DropReason) : (tellDrop st t a r s).fold = s.fold := rfl
@[simp] theorem tellDrop_windows (s : State) (st : Station) (t : TrackId) (a : Action) (r : DropReason) : (tellDrop st t a r s).windows = s.windows := rfl
@[simp] theorem tellDrop_store (s : State) (st : Station) (t : TrackId) (a : Action) (r : DropReason) : (tellDrop st t a r s).store = s.store := rfl
@[simp] theorem tellDrop_flash (s : State) (st : Station) (t : TrackId) (a : Action) (r : DropReason) : (tellDrop st t a r s).flash = s.flash := rfl
@[simp] theorem tellDrop_ports (s : State) (st : Station) (t : TrackId) (a : Action) (r : DropReason) : (tellDrop st t a r s).ports = s.ports := rfl
@[simp] theorem tellDrop_resets (s : State) (st : Station) (t : TrackId) (a : Action) (r : DropReason) : (tellDrop st t a r s).resets = s.resets := rfl
@[simp] theorem tellDrop_freeCount (s : State) (st : Station) (t : TrackId) (a : Action) (r : DropReason) : (tellDrop st t a r s).freeCount = s.freeCount := rfl
@[simp] theorem tellDrop_pending (s : State) (st : Station) (t : TrackId) (a : Action) (r : DropReason) : (tellDrop st t a r s).pending = s.pending := rfl

/-! ### setTrackState -/

@[simp] theorem setTrackState_grid (s : State) (t : TrackId) (x : TrackState) : (setTrackState t x s).grid = s.grid := rfl
@[simp] theorem setTrackState_queue (s : State) (t : TrackId) (x : TrackState) : (setTrackState t x s).queue = s.queue := rfl
@[simp] theorem setTrackState_layers (s : State) (t : TrackId) (x : TrackState) : (setTrackState t x s).layers = s.layers := rfl
@[simp] theorem setTrackState_arbiter (s : State) (t : TrackId) (x : TrackState) : (setTrackState t x s).arbiter = s.arbiter := rfl
@[simp] theorem setTrackState_rings (s : State) (t : TrackId) (x : TrackState) : (setTrackState t x s).rings = s.rings := rfl
@[simp] theorem setTrackState_pool (s : State) (t : TrackId) (x : TrackState) : (setTrackState t x s).pool = s.pool := rfl
@[simp] theorem setTrackState_dram (s : State) (t : TrackId) (x : TrackState) : (setTrackState t x s).dram = s.dram := rfl
@[simp] theorem setTrackState_mixer (s : State) (t : TrackId) (x : TrackState) : (setTrackState t x s).mixer = s.mixer := rfl
@[simp] theorem setTrackState_budget (s : State) (t : TrackId) (x : TrackState) : (setTrackState t x s).budget = s.budget := rfl
@[simp] theorem setTrackState_fold (s : State) (t : TrackId) (x : TrackState) : (setTrackState t x s).fold = s.fold := rfl
@[simp] theorem setTrackState_windows (s : State) (t : TrackId) (x : TrackState) : (setTrackState t x s).windows = s.windows := rfl
@[simp] theorem setTrackState_store (s : State) (t : TrackId) (x : TrackState) : (setTrackState t x s).store = s.store := rfl
@[simp] theorem setTrackState_flash (s : State) (t : TrackId) (x : TrackState) : (setTrackState t x s).flash = s.flash := rfl
@[simp] theorem setTrackState_ports (s : State) (t : TrackId) (x : TrackState) : (setTrackState t x s).ports = s.ports := rfl
@[simp] theorem setTrackState_attention (s : State) (t : TrackId) (x : TrackState) : (setTrackState t x s).attention = s.attention := rfl
@[simp] theorem setTrackState_resets (s : State) (t : TrackId) (x : TrackState) : (setTrackState t x s).resets = s.resets := rfl
@[simp] theorem setTrackState_freeCount (s : State) (t : TrackId) (x : TrackState) : (setTrackState t x s).freeCount = s.freeCount := rfl
@[simp] theorem setTrackState_pending (s : State) (t : TrackId) (x : TrackState) : (setTrackState t x s).pending = s.pending := rfl

/-! ### emptyTrack -/

@[simp] theorem emptyTrack_grid (s : State) (t : TrackId) : (emptyTrack t s).grid = s.grid := rfl
@[simp] theorem emptyTrack_queue (s : State) (t : TrackId) : (emptyTrack t s).queue = s.queue := rfl
@[simp] theorem emptyTrack_layers (s : State) (t : TrackId) : (emptyTrack t s).layers = s.layers := rfl
@[simp] theorem emptyTrack_arbiter (s : State) (t : TrackId) : (emptyTrack t s).arbiter = s.arbiter := rfl
@[simp] theorem emptyTrack_rings (s : State) (t : TrackId) : (emptyTrack t s).rings = s.rings := rfl
@[simp] theorem emptyTrack_pool (s : State) (t : TrackId) : (emptyTrack t s).pool = s.pool := rfl
@[simp] theorem emptyTrack_dram (s : State) (t : TrackId) : (emptyTrack t s).dram = s.dram := rfl
@[simp] theorem emptyTrack_mixer (s : State) (t : TrackId) : (emptyTrack t s).mixer = s.mixer := rfl
@[simp] theorem emptyTrack_budget (s : State) (t : TrackId) : (emptyTrack t s).budget = s.budget := rfl
@[simp] theorem emptyTrack_fold (s : State) (t : TrackId) : (emptyTrack t s).fold = s.fold := rfl
@[simp] theorem emptyTrack_windows (s : State) (t : TrackId) : (emptyTrack t s).windows = s.windows := rfl
@[simp] theorem emptyTrack_store (s : State) (t : TrackId) : (emptyTrack t s).store = s.store := rfl
@[simp] theorem emptyTrack_flash (s : State) (t : TrackId) : (emptyTrack t s).flash = s.flash := rfl
@[simp] theorem emptyTrack_ports (s : State) (t : TrackId) : (emptyTrack t s).ports = s.ports := rfl
@[simp] theorem emptyTrack_attention (s : State) (t : TrackId) : (emptyTrack t s).attention = s.attention := rfl
@[simp] theorem emptyTrack_resets (s : State) (t : TrackId) : (emptyTrack t s).resets = s.resets := rfl
@[simp] theorem emptyTrack_freeCount (s : State) (t : TrackId) : (emptyTrack t s).freeCount = s.freeCount := rfl
@[simp] theorem emptyTrack_pending (s : State) (t : TrackId) : (emptyTrack t s).pending = s.pending := rfl

/-! ### startLayerFade -/

@[simp] theorem startLayerFade_grid (s : State) (l : LayerId) (n : Nat) : (startLayerFade l n s).grid = s.grid := rfl
@[simp] theorem startLayerFade_tracks (s : State) (l : LayerId) (n : Nat) : (startLayerFade l n s).tracks = s.tracks := rfl
@[simp] theorem startLayerFade_queue (s : State) (l : LayerId) (n : Nat) : (startLayerFade l n s).queue = s.queue := rfl
@[simp] theorem startLayerFade_arbiter (s : State) (l : LayerId) (n : Nat) : (startLayerFade l n s).arbiter = s.arbiter := rfl
@[simp] theorem startLayerFade_rings (s : State) (l : LayerId) (n : Nat) : (startLayerFade l n s).rings = s.rings := rfl
@[simp] theorem startLayerFade_pool (s : State) (l : LayerId) (n : Nat) : (startLayerFade l n s).pool = s.pool := rfl
@[simp] theorem startLayerFade_dram (s : State) (l : LayerId) (n : Nat) : (startLayerFade l n s).dram = s.dram := rfl
@[simp] theorem startLayerFade_mixer (s : State) (l : LayerId) (n : Nat) : (startLayerFade l n s).mixer = s.mixer := rfl
@[simp] theorem startLayerFade_budget (s : State) (l : LayerId) (n : Nat) : (startLayerFade l n s).budget = s.budget := rfl
@[simp] theorem startLayerFade_fold (s : State) (l : LayerId) (n : Nat) : (startLayerFade l n s).fold = s.fold := rfl
@[simp] theorem startLayerFade_windows (s : State) (l : LayerId) (n : Nat) : (startLayerFade l n s).windows = s.windows := rfl
@[simp] theorem startLayerFade_store (s : State) (l : LayerId) (n : Nat) : (startLayerFade l n s).store = s.store := rfl
@[simp] theorem startLayerFade_flash (s : State) (l : LayerId) (n : Nat) : (startLayerFade l n s).flash = s.flash := rfl
@[simp] theorem startLayerFade_ports (s : State) (l : LayerId) (n : Nat) : (startLayerFade l n s).ports = s.ports := rfl
@[simp] theorem startLayerFade_attention (s : State) (l : LayerId) (n : Nat) : (startLayerFade l n s).attention = s.attention := rfl
@[simp] theorem startLayerFade_resets (s : State) (l : LayerId) (n : Nat) : (startLayerFade l n s).resets = s.resets := rfl
@[simp] theorem startLayerFade_freeCount (s : State) (l : LayerId) (n : Nat) : (startLayerFade l n s).freeCount = s.freeCount := rfl
@[simp] theorem startLayerFade_pending (s : State) (l : LayerId) (n : Nat) : (startLayerFade l n s).pending = s.pending := rfl

/-! ### startTrackFade -/

@[simp] theorem startTrackFade_grid (s : State) (t : TrackId) (n : Nat) : (startTrackFade t n s).grid = s.grid := rfl
@[simp] theorem startTrackFade_queue (s : State) (t : TrackId) (n : Nat) : (startTrackFade t n s).queue = s.queue := rfl
@[simp] theorem startTrackFade_layers (s : State) (t : TrackId) (n : Nat) : (startTrackFade t n s).layers = s.layers := rfl
@[simp] theorem startTrackFade_arbiter (s : State) (t : TrackId) (n : Nat) : (startTrackFade t n s).arbiter = s.arbiter := rfl
@[simp] theorem startTrackFade_rings (s : State) (t : TrackId) (n : Nat) : (startTrackFade t n s).rings = s.rings := rfl
@[simp] theorem startTrackFade_pool (s : State) (t : TrackId) (n : Nat) : (startTrackFade t n s).pool = s.pool := rfl
@[simp] theorem startTrackFade_dram (s : State) (t : TrackId) (n : Nat) : (startTrackFade t n s).dram = s.dram := rfl
@[simp] theorem startTrackFade_mixer (s : State) (t : TrackId) (n : Nat) : (startTrackFade t n s).mixer = s.mixer := rfl
@[simp] theorem startTrackFade_budget (s : State) (t : TrackId) (n : Nat) : (startTrackFade t n s).budget = s.budget := rfl
@[simp] theorem startTrackFade_fold (s : State) (t : TrackId) (n : Nat) : (startTrackFade t n s).fold = s.fold := rfl
@[simp] theorem startTrackFade_windows (s : State) (t : TrackId) (n : Nat) : (startTrackFade t n s).windows = s.windows := rfl
@[simp] theorem startTrackFade_store (s : State) (t : TrackId) (n : Nat) : (startTrackFade t n s).store = s.store := rfl
@[simp] theorem startTrackFade_flash (s : State) (t : TrackId) (n : Nat) : (startTrackFade t n s).flash = s.flash := rfl
@[simp] theorem startTrackFade_ports (s : State) (t : TrackId) (n : Nat) : (startTrackFade t n s).ports = s.ports := rfl
@[simp] theorem startTrackFade_attention (s : State) (t : TrackId) (n : Nat) : (startTrackFade t n s).attention = s.attention := rfl
@[simp] theorem startTrackFade_resets (s : State) (t : TrackId) (n : Nat) : (startTrackFade t n s).resets = s.resets := rfl
@[simp] theorem startTrackFade_freeCount (s : State) (t : TrackId) (n : Nat) : (startTrackFade t n s).freeCount = s.freeCount := rfl
@[simp] theorem startTrackFade_pending (s : State) (t : TrackId) (n : Nat) : (startTrackFade t n s).pending = s.pending := rfl

/-! ### setLayerEnv -/

@[simp] theorem setLayerEnv_grid (s : State) (l : LayerId) (n : Nat) : (setLayerEnv l n s).grid = s.grid := rfl
@[simp] theorem setLayerEnv_tracks (s : State) (l : LayerId) (n : Nat) : (setLayerEnv l n s).tracks = s.tracks := rfl
@[simp] theorem setLayerEnv_queue (s : State) (l : LayerId) (n : Nat) : (setLayerEnv l n s).queue = s.queue := rfl
@[simp] theorem setLayerEnv_arbiter (s : State) (l : LayerId) (n : Nat) : (setLayerEnv l n s).arbiter = s.arbiter := rfl
@[simp] theorem setLayerEnv_rings (s : State) (l : LayerId) (n : Nat) : (setLayerEnv l n s).rings = s.rings := rfl
@[simp] theorem setLayerEnv_pool (s : State) (l : LayerId) (n : Nat) : (setLayerEnv l n s).pool = s.pool := rfl
@[simp] theorem setLayerEnv_dram (s : State) (l : LayerId) (n : Nat) : (setLayerEnv l n s).dram = s.dram := rfl
@[simp] theorem setLayerEnv_mixer (s : State) (l : LayerId) (n : Nat) : (setLayerEnv l n s).mixer = s.mixer := rfl
@[simp] theorem setLayerEnv_budget (s : State) (l : LayerId) (n : Nat) : (setLayerEnv l n s).budget = s.budget := rfl
@[simp] theorem setLayerEnv_fold (s : State) (l : LayerId) (n : Nat) : (setLayerEnv l n s).fold = s.fold := rfl
@[simp] theorem setLayerEnv_windows (s : State) (l : LayerId) (n : Nat) : (setLayerEnv l n s).windows = s.windows := rfl
@[simp] theorem setLayerEnv_store (s : State) (l : LayerId) (n : Nat) : (setLayerEnv l n s).store = s.store := rfl
@[simp] theorem setLayerEnv_flash (s : State) (l : LayerId) (n : Nat) : (setLayerEnv l n s).flash = s.flash := rfl
@[simp] theorem setLayerEnv_ports (s : State) (l : LayerId) (n : Nat) : (setLayerEnv l n s).ports = s.ports := rfl
@[simp] theorem setLayerEnv_attention (s : State) (l : LayerId) (n : Nat) : (setLayerEnv l n s).attention = s.attention := rfl
@[simp] theorem setLayerEnv_resets (s : State) (l : LayerId) (n : Nat) : (setLayerEnv l n s).resets = s.resets := rfl
@[simp] theorem setLayerEnv_freeCount (s : State) (l : LayerId) (n : Nat) : (setLayerEnv l n s).freeCount = s.freeCount := rfl
@[simp] theorem setLayerEnv_pending (s : State) (l : LayerId) (n : Nat) : (setLayerEnv l n s).pending = s.pending := rfl

/-! ### leaveBudget -/

@[simp] theorem leaveBudget_grid (s : State) (l : LayerId) : (leaveBudget l s).grid = s.grid := rfl
@[simp] theorem leaveBudget_tracks (s : State) (l : LayerId) : (leaveBudget l s).tracks = s.tracks := rfl
@[simp] theorem leaveBudget_queue (s : State) (l : LayerId) : (leaveBudget l s).queue = s.queue := rfl
@[simp] theorem leaveBudget_layers (s : State) (l : LayerId) : (leaveBudget l s).layers = s.layers := rfl
@[simp] theorem leaveBudget_arbiter (s : State) (l : LayerId) : (leaveBudget l s).arbiter = s.arbiter := rfl
@[simp] theorem leaveBudget_rings (s : State) (l : LayerId) : (leaveBudget l s).rings = s.rings := rfl
@[simp] theorem leaveBudget_pool (s : State) (l : LayerId) : (leaveBudget l s).pool = s.pool := rfl
@[simp] theorem leaveBudget_dram (s : State) (l : LayerId) : (leaveBudget l s).dram = s.dram := rfl
@[simp] theorem leaveBudget_mixer (s : State) (l : LayerId) : (leaveBudget l s).mixer = s.mixer := rfl
@[simp] theorem leaveBudget_fold (s : State) (l : LayerId) : (leaveBudget l s).fold = s.fold := rfl
@[simp] theorem leaveBudget_windows (s : State) (l : LayerId) : (leaveBudget l s).windows = s.windows := rfl
@[simp] theorem leaveBudget_store (s : State) (l : LayerId) : (leaveBudget l s).store = s.store := rfl
@[simp] theorem leaveBudget_flash (s : State) (l : LayerId) : (leaveBudget l s).flash = s.flash := rfl
@[simp] theorem leaveBudget_ports (s : State) (l : LayerId) : (leaveBudget l s).ports = s.ports := rfl
@[simp] theorem leaveBudget_attention (s : State) (l : LayerId) : (leaveBudget l s).attention = s.attention := rfl
@[simp] theorem leaveBudget_resets (s : State) (l : LayerId) : (leaveBudget l s).resets = s.resets := rfl
@[simp] theorem leaveBudget_freeCount (s : State) (l : LayerId) : (leaveBudget l s).freeCount = s.freeCount := rfl
@[simp] theorem leaveBudget_pending (s : State) (l : LayerId) : (leaveBudget l s).pending = s.pending := rfl

/-! ### markEmptied -/

@[simp] theorem markEmptied_grid (s : State) (t : TrackId) : (markEmptied t s).grid = s.grid := rfl
@[simp] theorem markEmptied_tracks (s : State) (t : TrackId) : (markEmptied t s).tracks = s.tracks := rfl
@[simp] theorem markEmptied_layers (s : State) (t : TrackId) : (markEmptied t s).layers = s.layers := rfl
@[simp] theorem markEmptied_arbiter (s : State) (t : TrackId) : (markEmptied t s).arbiter = s.arbiter := rfl
@[simp] theorem markEmptied_rings (s : State) (t : TrackId) : (markEmptied t s).rings = s.rings := rfl
@[simp] theorem markEmptied_pool (s : State) (t : TrackId) : (markEmptied t s).pool = s.pool := rfl
@[simp] theorem markEmptied_dram (s : State) (t : TrackId) : (markEmptied t s).dram = s.dram := rfl
@[simp] theorem markEmptied_mixer (s : State) (t : TrackId) : (markEmptied t s).mixer = s.mixer := rfl
@[simp] theorem markEmptied_budget (s : State) (t : TrackId) : (markEmptied t s).budget = s.budget := rfl
@[simp] theorem markEmptied_fold (s : State) (t : TrackId) : (markEmptied t s).fold = s.fold := rfl
@[simp] theorem markEmptied_windows (s : State) (t : TrackId) : (markEmptied t s).windows = s.windows := rfl
@[simp] theorem markEmptied_store (s : State) (t : TrackId) : (markEmptied t s).store = s.store := rfl
@[simp] theorem markEmptied_flash (s : State) (t : TrackId) : (markEmptied t s).flash = s.flash := rfl
@[simp] theorem markEmptied_ports (s : State) (t : TrackId) : (markEmptied t s).ports = s.ports := rfl
@[simp] theorem markEmptied_attention (s : State) (t : TrackId) : (markEmptied t s).attention = s.attention := rfl
@[simp] theorem markEmptied_resets (s : State) (t : TrackId) : (markEmptied t s).resets = s.resets := rfl
@[simp] theorem markEmptied_freeCount (s : State) (t : TrackId) : (markEmptied t s).freeCount = s.freeCount := rfl
@[simp] theorem markEmptied_pending (s : State) (t : TrackId) : (markEmptied t s).pending = s.pending := rfl

/-! ### release -/

@[simp] theorem release_grid (s : State) (bs : List Nat) : (release bs s).grid = s.grid := rfl
@[simp] theorem release_tracks (s : State) (bs : List Nat) : (release bs s).tracks = s.tracks := rfl
@[simp] theorem release_queue (s : State) (bs : List Nat) : (release bs s).queue = s.queue := rfl
@[simp] theorem release_layers (s : State) (bs : List Nat) : (release bs s).layers = s.layers := rfl
@[simp] theorem release_arbiter (s : State) (bs : List Nat) : (release bs s).arbiter = s.arbiter := rfl
@[simp] theorem release_rings (s : State) (bs : List Nat) : (release bs s).rings = s.rings := rfl
@[simp] theorem release_dram (s : State) (bs : List Nat) : (release bs s).dram = s.dram := rfl
@[simp] theorem release_mixer (s : State) (bs : List Nat) : (release bs s).mixer = s.mixer := rfl
@[simp] theorem release_budget (s : State) (bs : List Nat) : (release bs s).budget = s.budget := rfl
@[simp] theorem release_fold (s : State) (bs : List Nat) : (release bs s).fold = s.fold := rfl
@[simp] theorem release_windows (s : State) (bs : List Nat) : (release bs s).windows = s.windows := rfl
@[simp] theorem release_store (s : State) (bs : List Nat) : (release bs s).store = s.store := rfl
@[simp] theorem release_flash (s : State) (bs : List Nat) : (release bs s).flash = s.flash := rfl
@[simp] theorem release_ports (s : State) (bs : List Nat) : (release bs s).ports = s.ports := rfl
@[simp] theorem release_attention (s : State) (bs : List Nat) : (release bs s).attention = s.attention := rfl
@[simp] theorem release_resets (s : State) (bs : List Nat) : (release bs s).resets = s.resets := rfl
@[simp] theorem release_freeCount (s : State) (bs : List Nat) : (release bs s).freeCount = s.freeCount := rfl
@[simp] theorem release_pending (s : State) (bs : List Nat) : (release bs s).pending = s.pending := rfl

/-! ### Reads after writes -/

theorem get_set_self {α : Type} {n : Nat} (v : Vector α n) (i : Fin n) (x : α) :
    (v.set i.val x i.isLt).get i = x := by
  show (v.set i.val x i.isLt)[i.val] = x
  simp

theorem get_set_ne {α : Type} {n : Nat} (v : Vector α n) (i j : Fin n) (x : α) (h : j ≠ i) :
    (v.set i.val x i.isLt).get j = v.get j := by
  have h' : i.val ≠ j.val := fun e => h (Fin.ext e.symm)
  show (v.set i.val x i.isLt)[j.val] = v[j.val]
  simp [h']

theorem get_map {α β : Type} {n : Nat} (v : Vector α n) (f : α → β) (i : Fin n) : (v.map f).get i = f (v.get i) := by
  show (v.map f)[i.val] = f v[i.val]
  simp

@[simp] theorem track_setTrack_self (s : State) (t : TrackId) (x : Track) : (s.setTrack t x).track t = x := get_set_self _ _ _

theorem track_setTrack_ne (s : State) (t u : TrackId) (x : Track) (h : u ≠ t) :
    (s.setTrack t x).track u = s.track u := get_set_ne _ _ _ _ h

@[simp] theorem layer_setLayer_self (s : State) (l : LayerId) (x : Layer) : (s.setLayer l x).layer l = x := get_set_self _ _ _

theorem layer_setLayer_ne (s : State) (l m : LayerId) (x : Layer) (h : m ≠ l) :
    (s.setLayer l x).layer m = s.layer m := get_set_ne _ _ _ _ h

@[simp] theorem head_setHead_self (s : State) (h : HeadId) (x : Option Held) : (s.setHead h x).head h = x := get_set_self _ _ _

theorem head_setHead_ne (s : State) (h k : HeadId) (x : Option Held) (e : k ≠ h) :
    (s.setHead h x).head k = s.head k := get_set_ne _ _ _ _ e

@[simp] theorem window_setWindow_self (s : State) (st : Station) (w : Window) : (s.setWindow st w).window st = w := get_set_self _ _ _

theorem window_setWindow_ne (s : State) (st u : Station) (w : Window) (h : u ≠ st) :
    (s.setWindow st w).window u = s.window u := get_set_ne _ _ _ _ h

@[simp] theorem port_setPort_self (s : State) (st : Station) (p : Port) : (s.setPort st p).port st = p := get_set_self _ _ _

theorem port_setPort_ne (s : State) (st u : Station) (p : Port) (h : u ≠ st) :
    (s.setPort st p).port u = s.port u := get_set_ne _ _ _ _ h

@[simp] theorem track_setLayer (s : State) (l : LayerId) (x : Layer) (t : TrackId) :
    (s.setLayer l x).track t = s.track t := rfl
@[simp] theorem layer_setTrack (s : State) (t : TrackId) (x : Track) (l : LayerId) :
    (s.setTrack t x).layer l = s.layer l := rfl
@[simp] theorem track_setPort (s : State) (st : Station) (p : Port) (t : TrackId) :
    (s.setPort st p).track t = s.track t := rfl
@[simp] theorem layer_setPort (s : State) (st : Station) (p : Port) (l : LayerId) :
    (s.setPort st p).layer l = s.layer l := rfl
@[simp] theorem window_setPort (s : State) (st : Station) (p : Port) (u : Station) :
    (s.setPort st p).window u = s.window u := rfl
@[simp] theorem head_setPort (s : State) (st : Station) (p : Port) (h : HeadId) :
    (s.setPort st p).head h = s.head h := rfl
@[simp] theorem track_modTrack_self (s : State) (t : TrackId) (f : Track → Track) :
    (s.modTrack t f).track t = f (s.track t) := track_setTrack_self s t _
theorem track_modTrack_ne (s : State) (t u : TrackId) (f : Track → Track) (h : u ≠ t) :
    (s.modTrack t f).track u = s.track u := track_setTrack_ne s t u _ h
@[simp] theorem layer_modLayer_self (s : State) (l : LayerId) (f : Layer → Layer) :
    (s.modLayer l f).layer l = f (s.layer l) := layer_setLayer_self s l _
theorem layer_modLayer_ne (s : State) (l m : LayerId) (f : Layer → Layer) (h : m ≠ l) :
    (s.modLayer l f).layer m = s.layer m := layer_setLayer_ne s l m _ h
@[simp] theorem track_raiseAll (s : State) (c : EventClass) (t : TrackId) : (raiseAll c s).track t = s.track t := rfl
@[simp] theorem layer_raiseAll (s : State) (c : EventClass) (l : LayerId) : (raiseAll c s).layer l = s.layer l := rfl

/-! ### Events -/

theorem events_raiseAll (s : State) (c : EventClass) (st : Station) :
    (raiseAll c s).attention.events.get st = s.attention.events.get st ||| c.mask := get_map _ _ _

theorem events_raiseTo_self (s : State) (c : EventClass) (st : Station) :
    (raiseTo st c s).attention.events.get st = s.attention.events.get st ||| c.mask := get_set_self _ _ _

theorem events_raiseTo_ne (s : State) (c : EventClass) (st u : Station) (h : u ≠ st) :
    (raiseTo st c s).attention.events.get u = s.attention.events.get u := get_set_ne _ _ _ _ h

@[simp] theorem masks_raiseAll (s : State) (c : EventClass) :
    (raiseAll c s).attention.masks = s.attention.masks := rfl
@[simp] theorem masks_raiseTo (s : State) (st : Station) (c : EventClass) :
    (raiseTo st c s).attention.masks = s.attention.masks := rfl
@[simp] theorem lastDrop_raiseAll (s : State) (c : EventClass) :
    (raiseAll c s).attention.lastDrop = s.attention.lastDrop := rfl

end Sys2Proof.Machine
end

