-- ==== Sys2Proof/Laws/Frame.lean ====
section
/-! SUPPORT. What the shared operations over tracks, layers, pool, heads, budget and fold leave alone. `State.shell`: flash,
rings, ports, resets, waiting commands, settings, and each queue entry's track and count. `State.outer`: loop DRAM and the
shell. One lemma per operation; a later proof cites it and unfolds nothing. -/

namespace Sys2Proof.Machine

/-- Track and count of each queue entry, in list order. -/
def State.waits (s : State) : List (TrackId × Nat) := s.queue.map fun e => (e.track, e.remaining)

def State.shell (s : State) := (s.flash, s.rings, s.ports, s.resets, s.pending, s.waits, s.settings)

def State.outer (s : State) := (s.dram, s.shell)

theorem State.shell_of_outer {s t : State} (h : t.outer = s.outer) : t.shell = s.shell := congrArg Prod.snd h
theorem State.dram_of_outer {s t : State} (h : t.outer = s.outer) : t.dram = s.dram := congrArg Prod.fst h


@[simp] theorem setTrack_outer (s : State) (t : TrackId) (x : Track) : (s.setTrack t x).outer = s.outer := rfl

@[simp] theorem modTrack_outer (s : State) (t : TrackId) (f : Track → Track) : (s.modTrack t f).outer = s.outer := rfl

@[simp] theorem setLayer_outer (s : State) (l : LayerId) (x : Layer) : (s.setLayer l x).outer = s.outer := rfl

@[simp] theorem modLayer_outer (s : State) (l : LayerId) (f : Layer → Layer) : (s.modLayer l f).outer = s.outer := rfl

@[simp] theorem setHead_outer (s : State) (h : HeadId) (x : Option Held) : (s.setHead h x).outer = s.outer := rfl

@[simp] theorem setWindow_outer (s : State) (st : Station) (w : Window) : (s.setWindow st w).outer = s.outer := rfl

@[simp] theorem raiseAll_outer (s : State) (c : EventClass) : (raiseAll c s).outer = s.outer := rfl

@[simp] theorem raiseTo_outer (s : State) (st : Station) (c : EventClass) : (raiseTo st c s).outer = s.outer := rfl

@[simp] theorem tellDrop_outer (s : State) (st : Station) (t : TrackId) (a : Action) (r : DropReason) : (tellDrop st t a r s).outer = s.outer := rfl

@[simp] theorem setTrackState_outer (s : State) (t : TrackId) (x : TrackState) : (setTrackState t x s).outer = s.outer := rfl

@[simp] theorem emptyTrack_outer (s : State) (t : TrackId) : (emptyTrack t s).outer = s.outer := rfl

@[simp] theorem startLayerFade_outer (s : State) (l : LayerId) (n : Nat) : (startLayerFade l n s).outer = s.outer := rfl

@[simp] theorem startTrackFade_outer (s : State) (t : TrackId) (n : Nat) : (startTrackFade t n s).outer = s.outer := rfl

@[simp] theorem setLayerEnv_outer (s : State) (l : LayerId) (n : Nat) : (setLayerEnv l n s).outer = s.outer := rfl

@[simp] theorem leaveBudget_outer (s : State) (l : LayerId) : (leaveBudget l s).outer = s.outer := rfl

@[simp] theorem release_outer (s : State) (bs : List Nat) : (release bs s).outer = s.outer := rfl

@[simp] theorem clearFolding_outer (s : State) (l : LayerId) : (clearFolding l s).outer = s.outer := rfl

@[simp] theorem setFolding_outer (s : State) (l : LayerId) : (setFolding l s).outer = s.outer := rfl

@[simp] theorem clearFoldWanted_outer (s : State) (t : TrackId) : (clearFoldWanted t s).outer = s.outer := rfl

@[simp] theorem leaveReserve_outer (s : State) (l : LayerId) : (leaveReserve l s).outer = s.outer := rfl

@[simp] theorem restoreLayer_outer (s : State) (l : LayerId) : (restoreLayer l s).outer = s.outer := rfl

@[simp] theorem unshedLayer_outer (s : State) (l : LayerId) : (unshedLayer l s).outer = s.outer := rfl

@[simp] theorem enforceBand_outer (s : State) : (enforceBand s).outer = s.outer := rfl

@[simp] theorem drawDetail_outer (s : State) : ((drawDetail s).2).outer = s.outer := rfl

@[simp] theorem reportStore_outer (s : State) (k : StoreKind) (st : Station) (r : StoreResult) (n : Nat) (d : Detail) : (reportStore k st r n d s).outer = s.outer := rfl

@[simp] theorem advanceFades_outer (s : State) : (advanceFades s).outer = s.outer := rfl

@[simp] theorem shiftLane_outer (s : State) : (shiftLane s).outer = s.outer := rfl

@[simp] theorem moveTracks_outer (s : State) : (moveTracks s).outer = s.outer := rfl

@[simp] theorem markEmptied_outer (s : State) (t : TrackId) : (markEmptied t s).outer = s.outer := by
  have h : (markEmptied t s).waits = s.waits := by
    simp only [State.waits, markEmptied, List.map_map]
    refine List.map_congr_left fun e _ => ?_
    simp only [Function.comp]
    split <;> rfl
  show (s.dram, s.flash, s.rings, s.ports, s.resets, s.pending, (markEmptied t s).waits, s.settings) = s.outer
  rw [h]
  rfl

@[simp] theorem testLowMark_outer (s : State) : (testLowMark s).outer = s.outer := by
  simp only [testLowMark]
  repeat' split
  all_goals first | (simp [State.outer, State.shell, State.settings, State.waits]; done) | rfl | (simp; rfl)

theorem allocate_outer (s t : State) (l : LayerId) (c : Nat) (h : allocate l c s = some t) : t.outer = s.outer := by
  simp only [allocate] at h
  split at h
  · simp only [Option.some.injEq] at h
    subst h
    rw [testLowMark_outer]
    rfl
  · exact absurd h (by simp)

@[simp] theorem allocate_getD_outer (s t : State) (l : LayerId) (c : Nat) (h : t.outer = s.outer) :
    ((allocate l c s).getD t).outer = s.outer := by
  cases e : allocate l c s with
  | none => simpa using h
  | some u => simpa using allocate_outer s u l c e

@[simp] theorem trimExtents_outer (s : State) (l : LayerId) (n : Nat) : (trimExtents l n s).outer = s.outer := by
  simp only [trimExtents]
  repeat' split
  all_goals first | (simp; done) | rfl | (simp; rfl)

@[simp] theorem setNewer_outer (s : State) (h : HeadId) (b : Bool) : (setNewer h b s).outer = s.outer := by
  simp only [setNewer]
  repeat' split
  all_goals first | (simp; done) | rfl | (simp; rfl)

@[simp] theorem releaseHead_outer (s : State) (h : HeadId) : (releaseHead h s).outer = s.outer := by
  simp only [releaseHead]
  repeat' split
  all_goals first | (simp; done) | rfl | (simp; rfl)

@[simp] theorem releaseHeadOf_outer (s : State) (l : LayerId) : (releaseHeadOf l s).outer = s.outer := by
  simp only [releaseHeadOf]
  repeat' split
  all_goals first | (simp; done) | rfl | (simp; rfl)

@[simp] theorem endStoreOp_outer (s : State) (r : StoreResult) (d : Detail) : (endStoreOp r d s).outer = s.outer := by
  simp only [endStoreOp]
  repeat' split
  all_goals first | (simp; done) | rfl | (simp; rfl)

@[simp] theorem endStoreUnstated_outer (s : State) (r : StoreResult) : (endStoreUnstated r s).outer = s.outer := by
  simp only [endStoreUnstated]
  repeat' split
  all_goals first | (simp; done) | rfl | (simp; rfl)

@[simp] theorem endRestarted_outer (s : State) : (endRestarted s).outer = s.outer := by
  simp only [endRestarted]
  repeat' split
  all_goals first | (simp; done) | rfl | (simp; rfl)

@[simp] theorem endAborted_outer (s : State) : (endAborted s).outer = s.outer := by
  simp only [endAborted]
  repeat' split
  all_goals first | (simp; done) | rfl | (simp; rfl)

@[simp] theorem storeLayerGone_outer (s : State) (l : LayerId) : (storeLayerGone l s).outer = s.outer := by
  simp only [storeLayerGone]
  repeat' split
  all_goals first | (simp; done) | rfl | (simp; rfl)

@[simp] theorem leaveTrack_outer (s : State) (l : LayerId) : (leaveTrack l s).outer = s.outer := by
  simp only [leaveTrack]
  repeat' split
  all_goals first | (simp; done) | rfl | (simp; rfl)

@[simp] theorem loseWindow_outer (s : State) (l : LayerId) (st : Station) : (loseWindow l s st).outer = s.outer := by
  simp only [loseWindow]
  repeat' split
  all_goals first | (simp; done) | rfl | (simp; rfl)

@[simp] theorem loseWindows_outer (s : State) (l : LayerId) : (loseWindows l s).outer = s.outer := by
  simp [loseWindows, stations]

@[simp] theorem purgeLayer_outer (s : State) (l : LayerId) : (purgeLayer l s).outer = s.outer := by
  simp only [purgeLayer]
  repeat' split
  all_goals first | (simp; done) | rfl | (simp; rfl)

@[simp] theorem endFold_outer (s : State) : (endFold s).outer = s.outer := by
  simp only [endFold]
  split
  · rfl
  · next j _ =>
    have e : (clearFolding j.b (clearFolding j.a s)).outer = s.outer := by simp
    generalize clearFolding j.b (clearFolding j.a s) = u at e ⊢
    exact e

@[simp] theorem abandonFold_outer (s : State) : (abandonFold s).outer = s.outer := by
  simp only [abandonFold]
  repeat' split
  all_goals first | (simp; done) | rfl | (simp; rfl)

@[simp] theorem purge_outer (s : State) (l : LayerId) : (purge l s).outer = s.outer := by
  simp only [purge]
  repeat' split
  all_goals first | (simp; done) | rfl | (simp; rfl)

@[simp] theorem purgeAll_outer (ls : List LayerId) (s : State) : (purgeAll ls s).outer = s.outer := by
  induction ls generalizing s with
  | nil => rfl
  | cons l rest ih => exact (ih (purge l s)).trans (purge_outer s l)

@[simp] theorem purgeRedo_outer (s : State) (t : TrackId) : (purgeRedo t s).outer = s.outer := by
  simp only [purgeRedo]
  repeat' split
  all_goals first | (simp; done) | rfl | (simp; rfl)

@[simp] theorem testFoldWanted_outer (s : State) (t : TrackId) : (testFoldWanted t s).outer = s.outer := by
  simp only [testFoldWanted]
  repeat' split
  all_goals first | (simp [State.outer, State.shell, State.settings, State.waits]; done) | rfl | (simp; rfl)

@[simp] theorem pushTake_outer (s : State) (t : TrackId) (l : LayerId) : (pushTake t l s).outer = s.outer := by
  simp only [pushTake]
  repeat' split
  all_goals first | (simp; done) | rfl | (simp; rfl)

@[simp] theorem raisePosition_outer (s : State) (g : Tempo) : (raisePosition g s).outer = s.outer := by
  simp only [raisePosition]
  repeat' split
  all_goals first | (simp; done) | rfl | (simp; rfl)

@[simp] theorem enterGrid_outer (s : State) (g : Tempo) : (enterGrid g s).outer = s.outer := by
  simp only [enterGrid, raisePosition_outer]
  rfl

@[simp] theorem advanceGrid_outer (s : State) : (advanceGrid s).outer = s.outer := by
  simp only [advanceGrid]
  repeat' split
  all_goals first | (simp; done) | rfl | (simp; rfl)

@[simp] theorem askReserve_outer (s : State) (l : LayerId) : (askReserve l s).outer = s.outer := by
  simp only [askReserve]
  repeat' split
  all_goals first | (simp; done) | rfl | (simp; rfl)

@[simp] theorem fadeOut_outer (s : State) (l : LayerId) : (fadeOut l s).outer = s.outer := by
  simp only [fadeOut]
  repeat' split
  all_goals first | (simp; done) | rfl | (simp; rfl)

@[simp] theorem shedLayer_outer (s : State) (l : LayerId) : (shedLayer l s).outer = s.outer := by
  simp only [shedLayer]
  repeat' split
  all_goals first | (simp; done) | rfl | (simp; rfl)

theorem foldl_outer {α : Type} (f : State → α → State) (h : ∀ s a, (f s a).outer = s.outer) (xs : List α) (s : State) :
    (xs.foldl f s).outer = s.outer := by
  induction xs generalizing s with
  | nil => rfl
  | cons a rest ih => exact (ih (f s a)).trans (h s a)

@[simp] theorem shedFirst_outer (n : Nat) (s : State) : (shedFirst n s).outer = s.outer :=
  foldl_outer _ (fun s l => shedLayer_outer s l) _ s

@[simp] theorem shedToBudget_outer (s : State) : (shedToBudget s).outer = s.outer := shedFirst_outer _ s

theorem admitOne_outer (s t : State) (h : admitOne s = some t) : t.outer = s.outer := by
  simp only [admitOne] at h
  split at h
  · simp_all
  · split at h
    · simp only [Option.some.injEq] at h
      subst h
      simp
    · exact absurd h (by simp)

theorem admitOnto_outer (s t : State) (tr : TrackId) (h : admitOnto tr s = some t) : t.outer = s.outer := by
  simp only [admitOnto] at h
  split at h
  · simp_all
  · exact admitOne_outer s t h

@[simp] theorem resumeFold_outer (s : State) : (resumeFold s).outer = s.outer := by
  simp only [resumeFold]
  repeat' split
  all_goals first | (simp; done) | rfl | (simp; rfl)

@[simp] theorem pauseFold_outer (s : State) : (pauseFold s).outer = s.outer := by
  simp only [pauseFold]
  repeat' split
  all_goals first | (simp; done) | rfl | (simp; rfl)

@[simp] theorem restoreFrom_outer (ls : List LayerId) (s : State) : (restoreFrom ls s).outer = s.outer := by
  induction ls generalizing s with
  | nil => rfl
  | cons l rest ih =>
    simp only [restoreFrom]
    split
    · exact (ih _).trans (restoreLayer_outer s l)
    · rfl

@[simp] theorem restoreShed_outer (s : State) : (restoreShed s).outer = s.outer := restoreFrom_outer _ s

@[simp] theorem advanceFadesIfDue_outer (s : State) : (advanceFadesIfDue s).outer = s.outer := by
  simp only [advanceFadesIfDue]
  repeat' split
  all_goals first | (simp; done) | rfl | (simp; rfl)

@[simp] theorem endLayerFade_outer (s : State) (l : LayerId) : (endLayerFade l s).outer = s.outer := by
  simp only [endLayerFade]
  repeat' split
  all_goals first | (simp; done) | rfl | (simp; rfl)

@[simp] theorem endTrackFade_outer (s : State) (t : TrackId) : (endTrackFade t s).outer = s.outer := by
  simp only [endTrackFade]
  repeat' split
  all_goals first | (simp; done) | rfl | (simp; rfl)

@[simp] theorem endFade_outer (s : State) (w : FadeSel) : (endFade w s).outer = s.outer := by
  simp only [endFade]
  repeat' split
  all_goals first | (simp; done) | rfl | (simp; rfl)

@[simp] theorem endAllFades_outer (s : State) : (endAllFades s).outer = s.outer :=
  (foldl_outer _ (fun s l => endLayerFade_outer s l) _ _).trans (foldl_outer _ (fun s t => endTrackFade_outer s t) _ s)

@[simp] theorem mixFrame_outer (s : State) : (mixFrame s).outer = s.outer := by
  simp only [mixFrame]
  split <;> rfl

theorem startFold_outer (s u : State) (t : TrackId) (a b r : LayerId) (h : startFold t a b r s = some u) :
    u.outer = s.outer := by
  simp only [startFold, Option.map_eq_some_iff] at h
  obtain ⟨v, hv, rfl⟩ := h
  have e := allocate_outer _ _ _ _ hv
  exact e

@[simp] theorem tryFold_outer (s : State) (t : TrackId) : (tryFold t s).outer = s.outer := by
  simp only [tryFold]
  split
  · split
    · next a b _ r _ _ =>
      cases e : startFold t a b r s with
      | none => rfl
      | some u => exact startFold_outer s u t a b r e
    · rfl
  · rfl

@[simp] theorem attemptFrom_outer (ts : List TrackId) (s : State) : (attemptFrom ts s).outer = s.outer := by
  induction ts generalizing s with
  | nil => rfl
  | cons t rest ih =>
    simp only [attemptFrom]
    repeat' split
    · exact (ih _).trans (clearFoldWanted_outer s t)
    · exact tryFold_outer s t
    · exact ih s

@[simp] theorem attemptFold_outer (s : State) : (attemptFold s).outer = s.outer := by
  simp only [attemptFold]
  repeat' split
  all_goals first | (simp; done) | rfl | (simp; rfl)

@[simp] theorem runAttempt_outer (s : State) : (runAttempt s).outer = s.outer := by
  simp only [runAttempt]
  split
  · rw [attemptFold_outer]
    rfl
  · rfl

@[simp] theorem formFrame_outer (s : State) : (formFrame s).outer = s.outer := by
  simp only [formFrame]
  repeat' split
  all_goals first | (simp; done) | rfl | (simp; rfl)

@[simp] theorem finish_outer (s : State) : (finish s).outer = s.outer := by
  simp only [finish]
  repeat' split
  all_goals first | (simp; done) | rfl | (simp; rfl)

@[simp] theorem completeFold_outer (s : State) (j : FoldJob) : (completeFold j s).outer = s.outer := by
  simp only [completeFold]
  repeat' split
  all_goals first | (simp; done) | rfl | (simp; rfl)

@[simp] theorem restartFold_outer (s : State) : (restartFold s).outer = s.outer := by
  simp only [restartFold]
  repeat' split
  all_goals first | (simp; done) | rfl | (simp; rfl)

@[simp] theorem fitExtents_outer (s t : State) (l : LayerId) (n : Nat) (h : fitExtents l n s = some t) :
    t.outer = s.outer := by
  simp only [fitExtents] at h
  split at h
  · simp only [Option.some.injEq] at h
    subst h
    simp
  · exact allocate_outer _ _ _ _ h

@[simp] theorem takeHead_outer (s : State) (h : HeadId) (x : Held) : (takeHead h x s).outer = s.outer := by
  simp only [takeHead]
  repeat' split
  all_goals first | (simp; done) | rfl | (simp; rfl)

@[simp] theorem lookAhead_outer (s : State) (h : HeadId) : (lookAhead h s).outer = s.outer := by
  simp only [lookAhead]
  split
  · rfl
  · split
    · exact allocate_getD_outer _ _ _ _ (setHead_outer _ _ _)
    · rfl

@[simp] theorem markLook_outer (s : State) (h : HeadId) : (markLook h s).outer = s.outer := by
  simp only [markLook]
  repeat' split
  all_goals first | (simp; done) | rfl | (simp; rfl)

@[simp] theorem takeLook_outer (s : State) (h : HeadId) : (takeLook h s).outer = s.outer := by
  simp only [takeLook]
  repeat' split
  all_goals first | (simp; done) | rfl | (simp; rfl)

@[simp] theorem takeLooks_outer (s : State) : (takeLooks s).outer = s.outer := by simp [takeLooks]

@[simp] theorem growFirst_outer (s : State) (b : Bool) (h : HeadId) : (growFirst b s h).outer = s.outer := by
  simp only [growFirst]
  repeat' split
  all_goals first | (simp; done) | rfl | (simp; rfl)

@[simp] theorem growTakes_outer (s : State) (b : Bool) : (growTakes b s).outer = s.outer := by simp [growTakes, headIds]

@[simp] theorem discardFirst_outer (s : State) (t : TrackId) (l : LayerId) : (discardFirst t l s).outer = s.outer := by
  simp only [discardFirst]
  repeat' split
  all_goals first | (simp; done) | rfl | (simp; rfl)

@[simp] theorem discardOverdub_outer (s : State) (t : TrackId) (l : LayerId) : (discardOverdub t l s).outer = s.outer := by
  simp only [discardOverdub]
  repeat' split
  all_goals first | (simp; done) | rfl | (simp; rfl)

@[simp] theorem failCapture_outer (s : State) (t : TrackId) (l : LayerId) : (failCapture t l s).outer = s.outer := by
  simp only [failCapture]
  repeat' split
  all_goals first | (simp; done) | rfl | (simp; rfl)

@[simp] theorem settleFirst_outer (s : State) (t : TrackId) (l : LayerId) (n k b p : Nat) : (settleFirst t l n k b p s).outer = s.outer := by
  simp only [settleFirst]
  repeat' split
  all_goals first | (simp; done) | rfl | (simp; rfl)

@[simp] theorem closeFirst_outer (s : State) (t : TrackId) (l : LayerId) (n : Nat) : (closeFirst t l n s).outer = s.outer := by
  simp only [closeFirst]
  repeat' split
  all_goals first | (simp; done) | rfl | (simp; rfl)

@[simp] theorem completeCapture_outer (s : State) (t : TrackId) (l : LayerId) (f b c w : Nat) : (completeCapture t l f b c w s).outer = s.outer := by
  simp only [completeCapture]
  repeat' split
  all_goals first | (simp; done) | rfl | (simp; rfl)

@[simp] theorem captureTake_outer (s : State) (t : TrackId) (l : LayerId) (w : Nat) :
    (captureTake t l w s).outer = s.outer := by
  simp only [captureTake]
  split
  · split
    · next u h => simp [fitExtents_outer _ _ _ _ h]
    · split <;> simp
  · simp

@[simp] theorem completeFit_outer (s : State) (t : TrackId) (l : LayerId) (n w k : Nat) : (completeFit t l n w k s).outer = s.outer := by
  simp only [completeFit]
  repeat' split
  all_goals first | (simp; done) | rfl | (simp; rfl)

@[simp] theorem fitTake_outer (s : State) (t : TrackId) (l : LayerId) (w d : Nat) :
    (fitTake t l w d s).outer = s.outer := by
  simp only [fitTake]
  split
  · simp
  · split
    · next u h => simp [fitExtents_outer _ _ _ _ h]
    · split <;> simp

@[simp] theorem closeCapture_outer (s : State) (t : TrackId) (l : LayerId) (d : Nat) : (closeCapture t l d s).outer = s.outer := by
  simp only [closeCapture]
  repeat' split
  all_goals first | (simp; done) | rfl | (simp; rfl)

@[simp] theorem closeWholeBars_outer (s : State) (t : TrackId) (l : LayerId) :
    (closeWholeBars t l s).2.outer = s.outer := by
  simp only [closeWholeBars]
  split <;> simp

@[simp] theorem stopOverdub_outer (s : State) (t : TrackId) (l : LayerId) (d : Nat) : (stopOverdub t l d s).outer = s.outer := by
  simp only [stopOverdub]
  repeat' split
  all_goals first | (simp; done) | rfl | (simp; rfl)

@[simp] theorem stopTake_outer (s : State) (x : Held) (d : Nat) : (stopTake x d s).outer = s.outer := by
  simp only [stopTake]
  repeat' split
  all_goals first | (simp; done) | rfl | (simp; rfl)

@[simp] theorem undoTake_outer (s : State) (t : TrackId) : (undoTake t s).outer = s.outer := by
  simp only [undoTake]
  repeat' split
  all_goals first | (simp; done) | rfl | (simp; rfl)

@[simp] theorem tellTake_outer (s : State) (t : TrackId) (st : Option Station) (a : Action) (r : DropReason) : (tellTake t st a r s).outer = s.outer := by
  simp only [tellTake]
  repeat' split
  all_goals first | (simp; done) | rfl | (simp; rfl)

@[simp] theorem limitClose_outer (s : State) (h : HeadId) : (limitClose h s).outer = s.outer := by
  simp only [limitClose]
  repeat' split
  all_goals first | (simp; done) | rfl | (simp; rfl)

@[simp] theorem shortClose_outer (s : State) (h : HeadId) : (shortClose h s).outer = s.outer := by
  simp only [shortClose]
  repeat' split
  all_goals first | (simp; done) | rfl | (simp; rfl)

@[simp] theorem shortEvent_outer (s : State) (h : HeadId) : (shortEvent h s).outer = s.outer := by simp [shortEvent]

@[simp] theorem shedIfLive_outer (s : State) (l : LayerId) : (shedIfLive l s).outer = s.outer := by
  simp only [shedIfLive]
  repeat' split
  all_goals first | (simp; done) | rfl | (simp; rfl)

@[simp] theorem budgetClose_outer (s : State) (h : HeadId) : (budgetClose h s).outer = s.outer := by
  simp only [budgetClose]
  repeat' split
  all_goals first | (simp; done) | rfl | (simp; rfl)

@[simp] theorem closeNewest_outer (s : State) : (closeNewest s).outer = s.outer := by
  simp only [closeNewest]
  repeat' split
  all_goals first | (simp; done) | rfl | (simp; rfl)

@[simp] theorem escalate_outer (s : State) : (escalate s).outer = s.outer := by
  simp only [escalate]
  repeat' split
  all_goals first | (simp; done) | rfl | (simp; rfl)

@[simp] theorem escalateIfOver_outer (s : State) : (escalateIfOver s).outer = s.outer := by
  simp only [escalateIfOver]
  repeat' split
  all_goals first | (simp; done) | rfl | (simp; rfl)

@[simp] theorem pauseForBand_outer (s : State) : (pauseForBand s).outer = s.outer := by
  simp only [pauseForBand]
  repeat' split
  all_goals first | (simp; done) | rfl | (simp; rfl)

@[simp] theorem changeBand_outer (s : State) (b : Band) : (changeBand b s).outer = s.outer := by
  simp only [changeBand, escalateIfOver_outer, pauseForBand_outer, raiseAll_outer, enforceBand_outer]
  rfl

@[simp] theorem takeReading_outer (s : State) : (takeReading s).outer = s.outer := by
  simp only [takeReading]
  split
  · rfl
  · rw [changeBand_outer]
    rfl

@[simp] theorem readingIfDue_outer (s : State) : (readingIfDue s).outer = s.outer := by
  simp only [readingIfDue]
  repeat' split
  all_goals first | (simp; done) | rfl | (simp; rfl)

@[simp] theorem applyBands_outer (s : State) : (applyBands s).outer = s.outer := by
  simp only [applyBands, escalateIfOver_outer, enforceBand_outer]
  rfl

@[simp] theorem bandsIfDue_outer (s : State) : (bandsIfDue s).outer = s.outer := by
  simp only [bandsIfDue]
  repeat' split
  all_goals first | (simp; done) | rfl | (simp; rfl)

@[simp] theorem supplyEvents_outer (s : State) (b : Bool) : (supplyEvents b s).outer = s.outer := by
  simp only [supplyEvents]
  split <;> simp

@[simp] theorem beatEvent_outer (s : State) (b : Bool) : (beatEvent b s).outer = s.outer := by
  simp only [beatEvent]
  repeat' split
  all_goals simp only [restoreShed_outer, attemptFold_outer, resumeFold_outer, raisePosition_outer]
  all_goals rfl

@[simp] theorem adoptLoop_outer (s : State) (t : TrackId) (l : LayerId) (x : TrackState) (e : Nat) : (adoptLoop t l x e s).outer = s.outer := by
  simp only [adoptLoop]
  repeat' split
  all_goals first | (simp; done) | rfl | (simp; rfl)

@[simp] theorem commitLayer_outer (s : State) (t : TrackId) (l : LayerId) : (commitLayer t l s).outer = s.outer := by
  simp only [commitLayer]
  repeat' split
  all_goals first | (simp; done) | rfl | (simp; rfl)

@[simp] theorem commitLoaded_outer (s : State) (t : TrackId) : (commitLoaded s t).outer = s.outer := by
  simp only [commitLoaded]
  repeat' split
  all_goals first | (simp; done) | rfl | (simp; rfl)

@[simp] theorem restartGrid_outer (s : State) : (restartGrid s).outer = s.outer := by
  simp only [restartGrid]
  repeat' split
  all_goals first | (simp; done) | rfl | (simp; rfl)

@[simp] theorem startupEvent_outer (s : State) : (startupEvent s).outer = s.outer := by
  simp only [startupEvent]
  split
  · have e : (trackIds.foldl commitLoaded (restartGrid s)).outer = s.outer :=
      (foldl_outer _ (fun s t => commitLoaded_outer s t) _ _).trans (restartGrid_outer s)
    generalize trackIds.foldl commitLoaded (restartGrid s) = u at e ⊢
    exact e
  · rfl

@[simp] theorem fadeEvent_outer (s : State) (w : FadeSel) : (fadeEvent w s).outer = s.outer := by
  simp only [fadeEvent]
  repeat' split
  all_goals first | (simp; done) | rfl | (simp; rfl)

@[simp] theorem openFades_outer (s : State) : (openFades s).outer = s.outer := rfl

@[simp] theorem tickReading_outer (s : State) : (tickReading s).outer = s.outer := by
  simp only [tickReading]
  repeat' split
  all_goals first | (simp; done) | rfl | (simp; rfl)

@[simp] theorem tickStartup_outer (s : State) : (tickStartup s).outer = s.outer := by
  simp only [tickStartup]
  repeat' split
  all_goals first | (simp; done) | rfl | (simp; rfl)

@[simp] theorem purgeOverflow_outer (s : State) (t : TrackId) : (purgeOverflow t s).outer = s.outer := by
  simp only [purgeOverflow]
  repeat' split
  all_goals first | (simp; done) | rfl | (simp; rfl)

@[simp] theorem abandonIfFolding_outer (s : State) (l : LayerId) : (abandonIfFolding l s).outer = s.outer := by
  simp only [abandonIfFolding]
  repeat' split
  all_goals first | (simp; done) | rfl | (simp; rfl)

@[simp] theorem undoLayer_outer (s : State) (t : TrackId) : (undoLayer t s).outer = s.outer := by
  simp only [undoLayer]
  repeat' split
  all_goals first | (simp; done) | rfl | (simp; rfl)

@[simp] theorem undoAction_outer (s : State) (t : TrackId) : (undoAction t s).outer = s.outer := by
  simp only [undoAction]
  repeat' split
  all_goals first | (simp; done) | rfl | (simp; rfl)

@[simp] theorem redoLayer_outer (s : State) (t : TrackId) : (redoLayer t s).outer = s.outer := by
  simp only [redoLayer]
  repeat' split
  all_goals first | (simp; done) | rfl | (simp; rfl)

@[simp] theorem commitAction_outer (s : State) (t : TrackId) : (commitAction t s).outer = s.outer := by
  simp only [commitAction]
  repeat' split
  all_goals first | (simp; done) | rfl | (simp; rfl)

@[simp] theorem muteAction_outer (s : State) (t : TrackId) : (muteAction t s).outer = s.outer := by
  simp only [muteAction]
  repeat' split
  all_goals first | (simp; done) | rfl | (simp; rfl)

@[simp] theorem unmuteAction_outer (s : State) (t : TrackId) : (unmuteAction t s).outer = s.outer := by
  simp only [unmuteAction]
  repeat' split
  all_goals first | (simp; done) | rfl | (simp; rfl)

@[simp] theorem abandonOn_outer (s : State) (t : TrackId) : (abandonOn t s).outer = s.outer := by
  simp only [abandonOn]
  repeat' split
  all_goals first | (simp; done) | rfl | (simp; rfl)

@[simp] theorem clearAction_outer (s : State) (t : TrackId) : (clearAction t s).outer = s.outer := by
  simp only [clearAction]
  repeat' split
  all_goals first | (simp; done) | rfl | (simp; rfl)

end Sys2Proof.Machine
end

