-- ==== Sys2Proof/Laws/Budget.lean ====
section
/-! SUPPORT. Everything that a shed, an admission and a look-ahead can do. -/

namespace Sys2Proof.Machine

/-- What shedding leaves alone: all but shed list, reserve, event sets, and marks and envelopes of layers. -/
def State.unshedPart (s : State) :=
  (s.grid, s.tracks, s.queue, s.arbiter, s.pool, s.dram, s.mixer, s.fold, s.windows, s.store, s.ports, s.budget.band,
    s.budget.table, s.budget.limit, s.budget.ceiling, s.budget.foldPaused)

/-- Shedding leaves the rest of the part alone, and of a layer everything but shed mark and envelope. -/
def ShedOnly (s t : State) : Prop :=
  t.unshedPart = s.unshedPart ∧
    ∀ l, ∃ shed env fade, t.layer l = { s.layer l with shed := shed, env := env, fade := fade }

theorem ShedOnly.refl (s : State) : ShedOnly s s := ⟨rfl, fun _ => ⟨_, _, _, rfl⟩⟩

theorem ShedOnly.trans {s t u : State} (h : ShedOnly s t) (g : ShedOnly t u) : ShedOnly s u := by
  refine ⟨g.1.trans h.1, fun l => ?_⟩
  obtain ⟨a, b, c, e⟩ := h.2 l
  obtain ⟨a', b', c', e'⟩ := g.2 l
  exact ⟨a', b', c', by rw [e', e]⟩

/-- A change of one layer's shed mark and envelope. -/
theorem shedOnly_modLayer (s : State) (l : LayerId) (f : Layer → Layer)
    (hf : ∀ x, ∃ shed env fade, f x = { x with shed := shed, env := env, fade := fade }) : ShedOnly s (s.modLayer l f) := by
  refine ⟨rfl, fun m => ?_⟩
  by_cases e : m = l
  · subst e
    obtain ⟨a, b, c, h⟩ := hf (s.layer m)
    exact ⟨a, b, c, by rw [layer_modLayer_self, h]⟩
  · exact ⟨(s.layer m).shed, (s.layer m).env, (s.layer m).fade, layer_modLayer_ne s l m f e⟩

theorem setLayerEnv_shedOnly (s : State) (l : LayerId) (v : Nat) : ShedOnly s (setLayerEnv l v s) :=
  shedOnly_modLayer s l _ fun _ => ⟨_, _, _, rfl⟩

theorem startLayerFade_shedOnly (s : State) (l : LayerId) (v : Nat) : ShedOnly s (startLayerFade l v s) :=
  shedOnly_modLayer s l _ fun _ => ⟨_, _, _, rfl⟩

theorem askReserve_shedOnly (s : State) (l : LayerId) : ShedOnly s (askReserve l s) := by
  simp only [askReserve]
  split
  · exact ShedOnly.refl s
  · split
    · exact ⟨rfl, fun _ => ⟨_, _, _, rfl⟩⟩
    · exact setLayerEnv_shedOnly s l 0

theorem fadeOut_shedOnly (s : State) (l : LayerId) : ShedOnly s (fadeOut l s) := by
  simp only [fadeOut]
  split
  · exact setLayerEnv_shedOnly s l 0
  · exact (startLayerFade_shedOnly s l 0).trans (askReserve_shedOnly _ l)

theorem shedLayer_shedOnly (s : State) (l : LayerId) : ShedOnly s (shedLayer l s) := by
  have h : ShedOnly s (s.modLayer l fun x => { x with shed := true }) := shedOnly_modLayer s l _ fun _ => ⟨_, _, _, rfl⟩
  simp only [shedLayer]
  refine h.trans ?_
  generalize s.modLayer l _ = u
  have g : ShedOnly u { u with budget := { u.budget with shedList := u.budget.shedList ++ [l] } } :=
    ⟨rfl, fun _ => ⟨_, _, _, rfl⟩⟩
  refine g.trans ?_
  split
  · exact (setLayerEnv_shedOnly _ l 0).trans ⟨rfl, fun _ => ⟨_, _, _, rfl⟩⟩
  · exact (fadeOut_shedOnly _ l).trans ⟨rfl, fun _ => ⟨_, _, _, rfl⟩⟩

theorem shedFirst_shedOnly (n : Nat) (s : State) : ShedOnly s (shedFirst n s) := by
  simp only [shedFirst]
  generalize (shedOrder s).take n = ls
  induction ls generalizing s with
  | nil => exact ShedOnly.refl s
  | cons l rest ih => exact (shedLayer_shedOnly s l).trans (ih _)

theorem shedToBudget_shedOnly (s : State) : ShedOnly s (shedToBudget s) := shedFirst_shedOnly _ s

/-- R133: an admission sheds and does nothing else. -/
theorem admitOne_shedOnly (s t : State) (h : admitOne s = some t) : ShedOnly s t := by
  simp only [admitOne] at h
  split at h
  · cases h
    exact ShedOnly.refl s
  · split at h
    · cases h
      exact shedFirst_shedOnly _ s
    · cases h

theorem admitOnto_shedOnly (x : TrackId) (s t : State) (h : admitOnto x s = some t) : ShedOnly s t := by
  simp only [admitOnto] at h
  split at h
  · cases h
    exact ShedOnly.refl s
  · exact admitOne_shedOnly s t h

/-! ### Look-aheads (R80) -/

theorem allocate_tracks (s t : State) (l : LayerId) (c : Nat) (h : allocate l c s = some t) : t.tracks = s.tracks := by
  simp only [allocate] at h
  split at h
  · cases h
    simp only [testLowMark]
    split <;> rfl
  · cases h

/-- A look-ahead moves no track. -/
@[simp] theorem lookAhead_tracks (h : HeadId) (s : State) : (lookAhead h s).tracks = s.tracks := by
  simp only [lookAhead]
  split
  · rfl
  · split
    · next held _ _ =>
      cases e : allocate held.layer 1 s with
      | none => rfl
      | some t => exact allocate_tracks s t _ _ e
    · rfl

@[simp] theorem takeLook_tracks (h : HeadId) (s : State) : (takeLook h s).tracks = s.tracks := by
  simp only [takeLook]
  split
  · rfl
  · split
    · simp
    · rfl

@[simp] theorem takeLooks_tracks (s : State) : (takeLooks s).tracks = s.tracks := by simp [takeLooks]

@[simp] theorem markLook_tracks (h : HeadId) (s : State) : (markLook h s).tracks = s.tracks := by
  simp only [markLook]
  split
  · rfl
  · split <;> rfl

end Sys2Proof.Machine
end

