-- ==== Sys2Proof/Laws/Dram.lean ====
section
/-! SUPPORT. What the operations that write loop DRAM leave alone (`State.shell`), and that they keep its canonical form. -/

namespace Sys2Proof.Machine

/-- Loop DRAM is in canonical form. -/
def DramWf (s : State) : Prop := Memory.wf dramDefault s.dram

theorem DramWf.of_outer {s t : State} (h : t.outer = s.outer) (hs : DramWf s) : DramWf t := by
  simp only [DramWf, State.dram_of_outer h]
  exact hs

/-- The shell stays and so does the canonical form of loop DRAM. -/
def KeepsShell (s t : State) : Prop := t.shell = s.shell ∧ (DramWf s → DramWf t)

theorem KeepsShell.refl (s : State) : KeepsShell s s := ⟨rfl, id⟩

theorem KeepsShell.trans {s t u : State} (h : KeepsShell s t) (g : KeepsShell t u) : KeepsShell s u :=
  ⟨g.1.trans h.1, fun hs => g.2 (h.2 hs)⟩

theorem KeepsShell.of_outer {s t : State} (h : t.outer = s.outer) : KeepsShell s t :=
  ⟨State.shell_of_outer h, DramWf.of_outer h⟩

theorem storeLayerWord_keeps (s : State) (l : LayerId) (i : Nat) (w : Word) : KeepsShell s (storeLayerWord l i w s) := by
  simp only [storeLayerWord]
  split
  · exact KeepsShell.refl s
  · split
    · exact ⟨rfl, fun hs => writeWord_wf _ _ _ _ (clearBytes_wf _ _ _ _ hs)⟩
    · exact ⟨rfl, fun hs => writeWord_wf _ _ _ _ hs⟩

theorem storeLayerWords_keeps (l : LayerId) (n : Nat) (ws : List Word) (i : Nat) (s : State) :
    KeepsShell s (storeLayerWords l n i ws s) := by
  induction ws generalizing i s with
  | nil => exact KeepsShell.refl s
  | cons w rest ih => exact (storeLayerWord_keeps s l _ w).trans (ih _ _)

theorem copyWords_keeps (first : Nat) (l : LayerId) (n i : Nat) (acc : Word) (s : State) :
    KeepsShell s (copyWords first l n i acc s).2 := by
  induction n generalizing i acc s with
  | zero => exact KeepsShell.refl s
  | succ n ih => exact (storeLayerWord_keeps s l _ _).trans (ih _ _ _)

theorem writeSteps_keeps (l : LayerId) (ws : List Word) (w : Window) (s : State) :
    KeepsShell s (writeSteps l ws w s).2 := by
  induction ws generalizing w s with
  | nil => exact KeepsShell.refl s
  | cons x rest ih => exact (storeLayerWord_keeps s l _ _).trans (ih _ _)

theorem headWrite_keeps (inputs : Vector Sample 8) (s : State) (h : HeadId) : KeepsShell s (headWrite inputs s h) := by
  simp only [headWrite]
  split
  · exact KeepsShell.refl s
  · split
    · exact storeLayerWord_keeps _ _ _ _
    · exact storeLayerWord_keeps _ _ _ _
    · exact (storeLayerWord_keeps _ _ _ _).trans (KeepsShell.of_outer (modLayer_outer _ _ _))

theorem openFirst_keeps (t : TrackId) (src : SourceId) (st : Station) (d : Nat) (h : HeadId) (l : LayerId) (s : State) :
    KeepsShell s (openFirst t src st d h l s) := by
  simp only [openFirst]
  refine KeepsShell.trans ?_ (KeepsShell.of_outer (lookAhead_outer _ _))
  refine KeepsShell.trans ?_ (storeLayerWords_keeps _ _ _ _ _)
  exact KeepsShell.of_outer (allocate_getD_outer _ _ _ _ rfl |>.trans (by simp))

theorem openOverdub_keeps (t : TrackId) (src : SourceId) (st : Station) (sp : Nat) (ws : List Word) (h : HeadId)
    (l : LayerId) (s : State) : KeepsShell s (openOverdub t src st sp ws h l s) := by
  simp only [openOverdub]
  refine KeepsShell.trans ?_ (storeLayerWords_keeps _ _ _ _ _)
  exact KeepsShell.of_outer (allocate_getD_outer _ _ _ _ rfl |>.trans (by simp))

theorem openCandidate_keeps (c : Candidate) (h : HeadId) (l : LayerId) (s : State) :
    KeepsShell s (openCandidate c h l s) := by
  have e : KeepsShell s (if candidateFirst c then openFirst c.track c.source c.takeStation c.backdate h l s
      else openOverdub c.track c.source c.takeStation (subMod (s.track c.track).pos c.backdate (s.track c.track).tlf)
        (prerollWords s c.source c.backdate) h l s) := by
    split
    · exact openFirst_keeps _ _ _ _ _ _ s
    · exact openOverdub_keeps _ _ _ _ _ _ _ s
  simp only [openCandidate]
  split
  · exact e.trans (KeepsShell.of_outer (raiseAll_outer _ _))
  · exact e

theorem advanceFold_keeps (s : State) : KeepsShell s (advanceFold s) := by
  simp only [advanceFold]
  split
  · exact KeepsShell.refl s
  · split
    · refine KeepsShell.trans ?_ (KeepsShell.of_outer (completeFold_outer _ _))
      exact (storeLayerWords_keeps _ _ _ _ s).trans ⟨rfl, id⟩
    · exact (storeLayerWords_keeps _ _ _ _ s).trans ⟨rfl, id⟩

theorem advanceFoldIfDue_keeps (s : State) : KeepsShell s (advanceFoldIfDue s) := by
  simp only [advanceFoldIfDue]
  split
  · exact KeepsShell.trans ⟨rfl, id⟩ (advanceFold_keeps _)
  · exact KeepsShell.refl s

theorem passNeeds_outer (s u : State) (t : TrackId) (l : LayerId) (h : passNeeds t s = .ok (l, u)) : u.outer = s.outer := by
  simp only [passNeeds] at h
  repeat' split at h
  all_goals try (simp at h; done)
  next e =>
    simp only [Except.ok.injEq, Prod.mk.injEq] at h
    obtain ⟨-, rfl⟩ := h
    exact admitOne_outer _ _ e

theorem endPass_keeps (h : HeadId) (b : Bool) (s : State) : KeepsShell s (endPass h b s) := by
  simp only [endPass]
  split
  · exact KeepsShell.refl s
  · next held _ =>
    split
    · have e : ∀ v : State, (if b = true then runAttempt v else v).outer = v.outer := by
        intro v; split <;> simp
      split
      · next l u hu =>
        refine KeepsShell.trans (KeepsShell.of_outer ?_) (openOverdub_keeps _ _ _ _ _ _ _ u)
        rw [passNeeds_outer _ _ _ _ hu, e]
        simp
      · refine KeepsShell.of_outer ?_
        simp only [tellTake_outer, setTrackState_outer, releaseHead_outer, e, pushTake_outer]
    · exact KeepsShell.refl s

end Sys2Proof.Machine
end

