-- ==== Sys2Proof/Laws/Events.lean ====
section
/-! SUPPORT. What firing entries and settling a boundary leave alone (`State.rest`), with the queue left out. -/

namespace Sys2Proof.Machine

/-- The shell without the waiting entries. -/
def State.rest (s : State) := (s.flash, s.rings, s.ports, s.resets, s.pending, s.settings)

theorem State.rest_of_shell {s t : State} (h : t.shell = s.shell) : t.rest = s.rest := by
  simp only [State.shell, Prod.mk.injEq] at h
  simp only [State.rest, h]

/-- The rest stays and so does the canonical form of loop DRAM. -/
def KeepsRest (s t : State) : Prop := t.rest = s.rest ∧ (DramWf s → DramWf t)

theorem KeepsRest.refl (s : State) : KeepsRest s s := ⟨rfl, id⟩

theorem KeepsRest.trans {s t u : State} (h : KeepsRest s t) (g : KeepsRest t u) : KeepsRest s u :=
  ⟨g.1.trans h.1, fun hs => g.2 (h.2 hs)⟩

theorem KeepsShell.toRest {s t : State} (h : KeepsShell s t) : KeepsRest s t := ⟨State.rest_of_shell h.1, h.2⟩

theorem KeepsRest.of_outer {s t : State} (h : t.outer = s.outer) : KeepsRest s t := (KeepsShell.of_outer h).toRest

theorem joinQueue_keeps (e : Entry) (s : State) : KeepsRest s (joinQueue e s) := ⟨rfl, id⟩

theorem backOff_keeps (e : Entry) (s : State) : KeepsRest s (backOff e s) := by
  simp only [backOff]
  split
  · exact KeepsRest.of_outer (tellDrop_outer _ _ _ _ _)
  · exact joinQueue_keeps _ s

theorem noHead_keeps (c : Candidate) (s : State) : KeepsRest s (noHead c s) := by
  simp only [noHead]
  split
  · exact backOff_keeps _ s
  · exact KeepsRest.of_outer (tellDrop_outer _ _ _ _ _)

theorem serveCandidate_keeps (c : Candidate) (s : State) : KeepsRest s (serveCandidate c s).2 := by
  simp only [serveCandidate]
  split
  · exact noHead_keeps c s
  · split
    · exact KeepsRest.of_outer (tellDrop_outer _ _ _ _ _)
    · split
      · split
        · exact KeepsRest.of_outer (tellDrop_outer _ _ _ _ _)
        · next u hu => exact (KeepsRest.of_outer (admitOne_outer _ _ hu)).trans (openCandidate_keeps c _ _ u).toRest
      · exact KeepsRest.of_outer (tellDrop_outer _ _ _ _ _)

theorem serveAll_keeps (cs : List Candidate) (last : Option Station) (s : State) :
    KeepsRest s (serveAll cs last s).2 := by
  induction cs generalizing last s with
  | nil => exact KeepsRest.refl s
  | cons c rest ih => exact (serveCandidate_keeps c s).trans (ih _ _)

theorem arbitrate_keeps (cs : List Candidate) (s : State) : KeepsRest s (arbitrate cs s) := by
  have e := serveAll_keeps (arbiterOrder s cs) none s
  simp only [arbitrate]
  split
  · exact e
  · exact e.trans ⟨rfl, id⟩

theorem fireAction_outer (e : Entry) (s : State) : (fireAction e s).outer = s.outer := by
  simp only [fireAction]
  split
  · simp
  · simp
  · simp
  · simp
  · split
    · next h => simp [admitOnto_outer _ _ _ h]
    · simp
  · split
    · next h => simp [admitOnto_outer _ _ _ h]
    · simp
  all_goals rfl

theorem fireStop_outer (e : Entry) (cs : List Candidate) (s : State) : (fireStop e cs s).1.outer = s.outer := by
  simp only [fireStop]
  split
  · rfl
  · split
    · rfl
    · split
      · simp only [chainOverdub]
        repeat' split
        all_goals simp
      · simp

theorem fireEntry_outer (e : Entry) (cs : List Candidate) (s : State) : (fireEntry e cs s).1.outer = s.outer := by
  simp only [fireEntry]
  split
  · simp
  · split
    · rfl
    · rfl
    · exact fireStop_outer e cs s
    · exact fireAction_outer e s

theorem fireDue_keeps (n : Nat) (b : Bool) (cs : List Candidate) (s : State) : KeepsRest s (fireDue n b cs s).1 := by
  induction n generalizing cs s with
  | zero => exact KeepsRest.refl s
  | succ n ih =>
    simp only [fireDue]
    split
    · exact KeepsRest.refl s
    · next e rest _ =>
      split
      · refine KeepsRest.trans ?_ (ih _ _)
        have h : KeepsRest s (fireEntry e cs { s with queue := rest }).1 :=
          KeepsRest.trans (t := { s with queue := rest }) ⟨rfl, id⟩ (KeepsRest.of_outer (fireEntry_outer e cs _))
        split
        · exact h.trans (KeepsRest.of_outer (runAttempt_outer _))
        · exact h
      · exact KeepsRest.refl s

theorem entryEvent_keeps (o : FireOrder) (s : State) : KeepsRest s (entryEvent o s) := by
  simp only [entryEvent]
  split
  · simp only [fireEntries]
    have h := fireDue_keeps s.queue.length o.foldFirst [] s
    refine KeepsRest.trans ?_ (arbitrate_keeps _ _)
    split
    · exact h.trans (KeepsRest.of_outer (takeLooks_outer _))
    · exact h
  · exact KeepsRest.refl s

theorem settle_keeps (s : State) : KeepsRest s (settle s) := by
  simp only [settle]
  have e : ∀ v : State, (if v.mixer.frameOpen = true then mixFrame v else v).outer = v.outer := by
    intro v
    split
    · exact mixFrame_outer v
    · rfl
  refine KeepsRest.trans ?_ (KeepsRest.of_outer (e _))
  refine KeepsRest.trans ?_ (KeepsRest.of_outer
    ((runAttempt_outer _).trans (supplyEvents_outer _ _)))
  refine KeepsRest.trans ?_ (KeepsRest.of_outer ((endAllFades_outer _).trans (advanceFadesIfDue_outer _)))
  refine KeepsRest.trans ?_ (KeepsRest.of_outer (runAttempt_outer _))
  refine KeepsRest.trans ?_ (advanceFoldIfDue_keeps _).toRest
  refine KeepsRest.trans ?_ (KeepsRest.of_outer (runAttempt_outer _))
  refine KeepsRest.trans ?_ (endPass_keeps _ _ _).toRest
  refine KeepsRest.trans ?_ (endPass_keeps _ _ _).toRest
  refine KeepsRest.trans ?_ (KeepsRest.of_outer
    ((runAttempt_outer _).trans ((shortEvent_outer _ _).trans (shortEvent_outer _ _))))
  refine KeepsRest.trans ?_ (KeepsRest.of_outer
    ((runAttempt_outer _).trans ((limitClose_outer _ _).trans (limitClose_outer _ _))))
  refine KeepsRest.trans ?_ (KeepsRest.of_outer (runAttempt_outer _))
  refine KeepsRest.trans ?_ (entryEvent_keeps _ _)
  refine KeepsRest.trans ?_ (KeepsRest.of_outer ((runAttempt_outer _).trans (beatEvent_outer _ _)))
  exact KeepsRest.of_outer ((runAttempt_outer _).trans (startupEvent_outer _))

end Sys2Proof.Machine
end

