-- ==== Sys2Proof/Laws/Finish.lean ====
section
/-! SUPPORT. What the end of a command does: `finish` leaves the state settled, changes nothing of a settled state, and what
is due depends on ten fields only. -/

namespace Sys2Proof.Machine

/-- What `anyDue` reads. -/
def State.dues (s : State) :=
  (s.grid.beatDue, s.mixer.fadesDue, s.fold.advanceDue, s.budget.bandsDue, s.budget.readingDue, s.store.phase, s.queue,
    s.arbiter.heads, (fun t : TrackId => ((s.track t).pos, (s.track t).fade)),
    (fun l : LayerId => ((s.layer l).extents.length, (s.layer l).spanLen, (s.layer l).length, (s.layer l).fade)))

theorem vector_any_get {n : Nat} {α : Type} (v : Vector α n) (p : α → Bool) :
    v.any p = true ↔ ∃ i : Fin n, p (v.get i) = true := by
  rw [Vector.any_eq_true]
  exact ⟨fun ⟨i, hi, h⟩ => ⟨⟨i, hi⟩, h⟩, fun ⟨i, h⟩ => ⟨i.val, i.isLt, h⟩⟩

theorem any_false {n : Nat} {α : Type} (v : Vector α n) (p : α → Bool) (h : v.any p = false) (i : Fin n) :
    p (v.get i) = false := by
  cases e : p (v.get i)
  · rfl
  · exact absurd ((vector_any_get v p).mpr ⟨i, e⟩) (by simp [h])

theorem anyDue_congr {s t : State} (h : t.dues = s.dues) : anyDue t = anyDue s := by
  simp only [State.dues, Prod.mk.injEq, funext_iff] at h
  obtain ⟨h1, h2, h3, h4, h5, h6, h7, h8, h9, h10⟩ := h
  have hh : ∀ g, headDue t g = headDue s g := by
    intro g
    have e : t.head g = s.head g := by simp only [State.head, h8]
    simp only [headDue, limitReached, shortReached, passReached, lookDue, e, (h9 _).1, (h10 _).1, (h10 _).2.1, (h10 _).2.2.1]
  have hf : fadeDue t = fadeDue s := by
    rw [Bool.eq_iff_iff]
    simp only [fadeDue, Bool.or_eq_true, vector_any_get]
    have e9 : ∀ i, fadeReached (t.tracks.get i).fade = fadeReached (s.tracks.get i).fade := fun i => congrArg _ (h9 i).2
    have e10 : ∀ i, fadeReached (t.layers.get i).fade = fadeReached (s.layers.get i).fade :=
      fun i => congrArg _ (h10 i).2.2.2
    simp only [e9, e10]
  simp only [anyDue, entryDue, h1, h2, h3, h4, h5, h6, h7, hf, funext hh]

theorem settled_congr {s t : State} (h : t.dues = s.dues) (ha : t.fold.attemptDue = s.fold.attemptDue)
    (hf : t.mixer.frameOpen = s.mixer.frameOpen) (hs : Settled s) : Settled t := by
  simp only [Settled, anyDue_congr h, ha, hf]
  exact hs

/-- An allocation touches the pool, one extent list and the event sets. -/
theorem allocate_fold (s t : State) (l : LayerId) (c : Nat) (h : allocate l c s = some t) : t.fold = s.fold := by
  simp only [allocate] at h
  split at h
  · simp only [Option.some.injEq] at h
    subst h
    simp only [testLowMark]
    split <;> rfl
  · exact absurd h (by simp)

@[simp] theorem tryFold_attemptDue (s : State) (t : TrackId) : (tryFold t s).fold.attemptDue = s.fold.attemptDue := by
  simp only [tryFold]
  split
  · split
    · next a b _ r _ _ =>
      cases e : startFold t a b r s with
      | none => rfl
      | some u =>
        simp only [startFold, Option.map_eq_some_iff] at e
        obtain ⟨v, hv, rfl⟩ := e
        show v.fold.attemptDue = _
        rw [allocate_fold _ _ _ _ hv]
        rfl
    · rfl
  · rfl

@[simp] theorem attemptFrom_attemptDue (ts : List TrackId) (s : State) :
    (attemptFrom ts s).fold.attemptDue = s.fold.attemptDue := by
  induction ts generalizing s with
  | nil => rfl
  | cons t rest ih =>
    simp only [attemptFrom]
    repeat' split
    · exact (ih _).trans rfl
    · exact tryFold_attemptDue s t
    · exact ih s

@[simp] theorem runAttempt_attemptDue (s : State) : (runAttempt s).fold.attemptDue = false := by
  simp only [runAttempt]
  split
  · simp only [attemptFold]
    split
    · rw [attemptFrom_attemptDue]
    · rfl
  · next h => simpa using h

@[simp] theorem mixFrame_fold (s : State) : (mixFrame s).fold = s.fold := by
  simp only [mixFrame]
  split <;> rfl

@[simp] theorem mixFrame_frameOpen (s : State) : (mixFrame s).mixer.frameOpen = false := by
  simp only [mixFrame]
  split <;> rfl

theorem formFrame_settled (s : State) (h : s.fold.attemptDue = false) : Settled (formFrame s) := by
  simp only [formFrame]
  split
  · exact ⟨by simpa using h, by simp⟩
  · next hn =>
    refine ⟨h, fun ho => ?_⟩
    simpa [ho] using hn

theorem finish_settled (s : State) : Settled (finish s) := formFrame_settled _ (runAttempt_attemptDue s)

theorem finish_of_settled {s : State} (h : Settled s) : finish s = s := by
  obtain ⟨ha, hf⟩ := h
  have e : runAttempt s = s := by simp [runAttempt, ha]
  simp only [finish, e, formFrame]
  split
  · next hn =>
    simp only [Bool.and_eq_true, Bool.not_eq_true'] at hn
    simp [hf hn.1] at hn
  · rfl

/-- A state that keeps what is due of a settled state is left alone by `finish`. -/
theorem finish_same {s t : State} (hs : Settled s) (h : t.dues = s.dues) (ha : t.fold.attemptDue = s.fold.attemptDue)
    (hf : t.mixer.frameOpen = s.mixer.frameOpen) : finish t = t := finish_of_settled (settled_congr h ha hf hs)

@[simp] theorem holdReply_dues (s : State) (st : Station) (r : Reply) : (holdReply st r s).dues = s.dues := rfl
@[simp] theorem placeReply_dues (s : State) (st : Station) (r : Reply) : (placeReply st r s).dues = s.dues := rfl
@[simp] theorem setPort_dues (s : State) (st : Station) (p : Port) : (s.setPort st p).dues = s.dues := rfl

/-- A track update that keeps position and fade keeps what is due. -/
theorem setTrack_dues (s : State) (t : TrackId) (x : Track) (h1 : x.pos = (s.track t).pos)
    (h2 : x.fade = (s.track t).fade) : (s.setTrack t x).dues = s.dues := by
  simp only [State.dues, Prod.mk.injEq]
  refine ⟨rfl, rfl, rfl, rfl, rfl, rfl, rfl, rfl, ?_, rfl⟩
  funext u
  by_cases e : u = t
  · subst e
    simp [h1, h2]
  · rw [track_setTrack_ne _ _ _ _ e]

/-- A layer update that keeps length, span length, number of extents and fade keeps what is due. -/
theorem setLayer_dues (s : State) (l : LayerId) (x : Layer) (h1 : x.extents.length = (s.layer l).extents.length)
    (h2 : x.spanLen = (s.layer l).spanLen) (h3 : x.length = (s.layer l).length) (h4 : x.fade = (s.layer l).fade) :
    (s.setLayer l x).dues = s.dues := by
  simp only [State.dues, Prod.mk.injEq]
  refine ⟨rfl, rfl, rfl, rfl, rfl, rfl, rfl, rfl, rfl, ?_⟩
  funext m
  by_cases e : m = l
  · subst e
    simp [h1, h2, h3, h4]
  · rw [layer_setLayer_ne _ _ _ _ e]

/-- A request that its port takes is executed, its reply held, and the command ended. -/
theorem request_of_taken {i : Instr} {st : Station} {s : State} (run : State → Reply × State) (h : Taken i st s) :
    request st i run s = finish (holdReply st (run s).1 (run s).2) := by
  obtain ⟨h1, h2, h3⟩ := h
  simp only [request, h1, h2, checked, h3, if_true]
  rfl

/-- A request that its port takes in a settled state, and that keeps what is due, leaves its effect and its reply. -/
theorem request_same {i : Instr} {st : Station} {s u : State} {r : Reply} (run : State → Reply × State) (hs : Settled s)
    (h : Taken i st s) (hr : run s = (r, u)) (hd : u.dues = s.dues) (ha : u.fold.attemptDue = s.fold.attemptDue)
    (hf : u.mixer.frameOpen = s.mixer.frameOpen) : request st i run s = holdReply st r u := by
  rw [request_of_taken run h, hr]
  exact finish_same hs (by simpa using hd) ha hf

theorem takeLook_not_due (h : HeadId) (s : State) (hh : lookDue s h = false) : takeLook h s = s := by
  simp only [takeLook]
  split
  · rfl
  · next held e =>
    have : held.lookDue = false := by simpa [lookDue, e] using hh
    simp [this]

theorem shortClose_not_due (h : HeadId) (s : State) (hh : shortReached s h = false) : shortClose h s = s := by
  simp only [shortClose]
  split <;> simp [hh]

theorem shortEvent_not_due (h : HeadId) (s : State) (hs : shortReached s h = false) (hl : lookDue s h = false) :
    shortEvent h s = s := by
  simp only [shortEvent, takeLook_not_due h s hl, shortClose_not_due h s hs]

theorem supplyEvents_not_due (b : Bool) (s : State) (hb : s.budget.bandsDue = false) (hr : s.budget.readingDue = false) :
    supplyEvents b s = s := by
  simp [supplyEvents, bandsIfDue, readingIfDue, hb, hr]

theorem endPass_not_due (h : HeadId) (b : Bool) (s : State) (hh : passReached s h = false) : endPass h b s = s := by
  simp only [endPass]
  split
  · rfl
  · simp [hh]

theorem foldl_id {α : Type} {f : State → α → State} {s : State} (hf : ∀ a, f s a = s) (xs : List α) : xs.foldl f s = s := by
  induction xs with
  | nil => rfl
  | cons a rest ih => simp [hf, ih]

theorem endLayerFade_not_due (l : LayerId) (s : State) (h : fadeReached (s.layer l).fade = false) :
    endLayerFade l s = s := by
  simp only [endLayerFade]
  split
  · next f hf =>
    have : f.reached = false := by simpa [hf, fadeReached] using h
    simp [this]
  · rfl

theorem endTrackFade_not_due (t : TrackId) (s : State) (h : fadeReached (s.track t).fade = false) :
    endTrackFade t s = s := by
  simp only [endTrackFade]
  split
  · next f hf =>
    have : f.reached = false := by simpa [hf, fadeReached] using h
    simp [this]
  · rfl

/-- Where nothing is due of a settled state, settling a boundary changes nothing. -/
theorem settle_quiet (s : State) (hs : Settled s) (hd : anyDue s = false) : settle s = s := by
  have hr : runAttempt s = s := by simp [runAttempt, hs.1]
  have hf : s.mixer.frameOpen = false := by
    cases e : s.mixer.frameOpen
    · rfl
    · have := hs.2 e
      simp [hd] at this
  simp only [anyDue, Bool.or_eq_false_iff] at hd
  obtain ⟨⟨⟨⟨⟨⟨⟨⟨h1, h2⟩, h3⟩, h4⟩, h5⟩, h6⟩, h7⟩, h8⟩, h9⟩ := hd
  have hh : ∀ h, headDue s h = false := by
    intro h
    simp only [headIds, List.any_cons, List.any_nil, Bool.or_false, Bool.or_eq_false_iff] at h8
    match h with
    | 0 => exact h8.1
    | 1 => exact h8.2
  simp only [headDue, Bool.or_eq_false_iff] at hh
  simp only [fadeDue, Bool.or_eq_false_iff] at h9
  have e1 : startupEvent s = s := by
    simp only [startupEvent]
    split
    · next h => simp [h] at h6
    · rfl
  have e2 : beatEvent false s = s := by
    simp only [beatEvent]
    split <;> simp [h1]
  have e3 : entryEvent ⟨false, false⟩ s = s := by simp [entryEvent, h7]
  have e4 : ∀ h, limitClose h s = s := by
    intro h
    simp only [limitClose]
    split <;> simp [(hh h).1.1.1]
  have e5 : ∀ h, shortEvent h s = s := fun h => shortEvent_not_due h s (hh h).1.1.2 (hh h).2
  have e6 : ∀ h, endPass h false s = s := fun h => endPass_not_due h false s (hh h).1.2
  have e7 : advanceFoldIfDue s = s := by simp [advanceFoldIfDue, h3]
  have e8 : advanceFadesIfDue s = s := by simp [advanceFadesIfDue, h2]
  have e9 : supplyEvents false s = s := supplyEvents_not_due false s h4 h5
  have e11 : endAllFades s = s := by
    have el : ∀ l, endLayerFade l s = s := fun l => endLayerFade_not_due l s (any_false _ _ h9.2 l)
    have et : ∀ t, endTrackFade t s = s := fun t => endTrackFade_not_due t s (any_false _ _ h9.1 t)
    simp only [endAllFades]
    rw [foldl_id (s := s) et, foldl_id el]
  simp only [settle, e1, hr, e2, e3, e4, e5, e6, e7, e8, e11, e9, hf]
  rfl

end Sys2Proof.Machine
end

