-- ==== Sys2Proof/Laws/PerInstr.lean ====
section
/-! SUPPORT. The family Shape: a well-formed command has operand lists of a length that R157 and R173 allow, one lemma per
command. -/

namespace Sys2Proof.Laws.Shape

/-- A well-formed command passes the length check of R183 step 3. -/
def Statement (i : Instr) : Prop := i.wf = true → Machine.lengthOk i = true

theorem powerReset (straps : Vector Strap 4) (left : FlashLeft) :
    Statement (Instr.powerReset straps left) := fun _ => rfl
theorem brownoutReset (straps : Vector Strap 4) (left : FlashLeft) :
    Statement (Instr.brownoutReset straps left) := fun _ => rfl
theorem pinReset (straps : Vector Strap 4) (left : FlashLeft) : Statement (Instr.pinReset straps left) := fun _ => rfl
theorem resetEnd (detectorLast : Bool) : Statement (Instr.resetEnd detectorLast) := fun _ => rfl
theorem startup : Statement (Instr.startup) := fun _ => rfl
theorem startupCommit : Statement (Instr.startupCommit) := fun _ => rfl
theorem csFall (st : Station) : Statement (Instr.csFall st) := fun _ => rfl
theorem csRise (st : Station) : Statement (Instr.csRise st) := fun _ => rfl
theorem packetReceived (st : Station) (kind len : Byte) (body : List Byte) (check : Byte) :
    Statement (Instr.packetReceived st kind len body check) := fun _ => rfl
theorem replyDelivered (st : Station) : Statement (Instr.replyDelivered st) := fun _ => rfl
theorem nop (st : Station) : Statement (Instr.nop st) := fun _ => rfl
theorem setGrid (st : Station) (fpb : BitVec 16) (bpb cb : Byte) :
    Statement (Instr.setGrid st fpb bpb cb) := fun _ => rfl
theorem clearGrid (st : Station) : Statement (Instr.clearGrid st) := fun _ => rfl
theorem setCapture (st : Station) (capb capBpb : Byte) (pref grace : BitVec 16) :
    Statement (Instr.setCapture st capb capBpb pref grace) := fun _ => rfl
theorem act (st : Station) (track action quantize srcStation srcChannel chain : Byte) :
    Statement (Instr.act st track action quantize srcStation srcChannel chain) := fun _ => rfl
theorem cancel (st : Station) (track : Byte) : Statement (Instr.cancel st track) := fun _ => rfl
theorem setTrack (st : Station) (track : Byte) (gain : BitVec 24) (bus rank : Byte) :
    Statement (Instr.setTrack st track gain bus rank) := fun _ => rfl
theorem guard (st : Station) (track flags : Byte) : Statement (Instr.guard st track flags) := fun _ => rfl
theorem unguard (st : Station) (track : Byte) : Statement (Instr.unguard st track) := fun _ => rfl
theorem setLayer (st : Station) (layer : Byte) (gain : BitVec 24) (pinned : Byte) :
    Statement (Instr.setLayer st layer gain pinned) := fun _ => rfl
theorem rotate (st : Station) (layer : Byte) (d : Word) : Statement (Instr.rotate st layer d) := fun _ => rfl
theorem createLayer (st : Station) (track bars : Byte) : Statement (Instr.createLayer st track bars) := fun _ => rfl
theorem openWindow (st : Station) (layer : Byte) (ws we : Word) (direction : Byte) :
    Statement (Instr.openWindow st layer ws we direction) := fun _ => rfl
theorem writeData (st : Station) (words : List Word) : Statement (Instr.writeData st words) := fun h => h
theorem readData (st : Station) (k : Byte) : Statement (Instr.readData st k) := fun _ => rfl
theorem closeWindow (st : Station) : Statement (Instr.closeWindow st) := fun _ => rfl
theorem erase (st : Station) (first count : BitVec 16) : Statement (Instr.erase st first count) := fun _ => rfl
theorem blankCheck (st : Station) (first count : BitVec 16) : Statement (Instr.blankCheck st first count) := fun _ => rfl
theorem save (st : Station) (layer : Byte) (first : BitVec 16) : Statement (Instr.save st layer first) := fun _ => rfl
theorem load (st : Station) (first : BitVec 16) (track : Byte) : Statement (Instr.load st first track) := fun _ => rfl
theorem verify (st : Station) (layer : Byte) (first : BitVec 16) :
    Statement (Instr.verify st layer first) := fun _ => rfl
theorem sum (st : Station) (first count : BitVec 16) : Statement (Instr.sum st first count) := fun _ => rfl
theorem protect (st : Station) (floor : BitVec 16) (flags : Byte) :
    Statement (Instr.protect st floor flags) := fun _ => rfl
theorem setStartup (st : Station) (entries : List (Byte × BitVec 16)) :
    Statement (Instr.setStartup st entries) := fun h => h
theorem release (st : Station) : Statement (Instr.release st) := fun _ => rfl
theorem abortStore (st : Station) : Statement (Instr.abortStore st) := fun _ => rfl
theorem setFade (st : Station) (segLen : BitVec 16) (slopes : Vector Byte 16) :
    Statement (Instr.setFade st segLen slopes) := fun _ => rfl
theorem setBands (st : Station) (ta tb tc hy : BitVec 16) (budgets : Vector (BitVec 16) 4) (ceilings : Vector (BitVec 24) 4) :
    Statement (Instr.setBands st ta tb tc hy budgets ceilings) := fun _ => rfl
theorem setFold (st : Station) (threshold : BitVec 16) : Statement (Instr.setFold st threshold) := fun _ => rfl
theorem setRouting (st : Station) (station : Byte) (mask : BitVec 16) :
    Statement (Instr.setRouting st station mask) := fun _ => rfl
theorem setLowMark (st : Station) (mark : BitVec 16) : Statement (Instr.setLowMark st mark) := fun _ => rfl
theorem setBus (st : Station) (mainGain cueGain : BitVec 24) :
    Statement (Instr.setBus st mainGain cueGain) := fun _ => rfl
theorem readGrid (st : Station) : Statement (Instr.readGrid st) := fun _ => rfl
theorem readTrack (st : Station) (track : Byte) : Statement (Instr.readTrack st track) := fun _ => rfl
theorem readLayer (st : Station) (layer : Byte) : Statement (Instr.readLayer st layer) := fun _ => rfl
theorem readSupply (st : Station) : Statement (Instr.readSupply st) := fun _ => rfl
theorem readStore (st : Station) : Statement (Instr.readStore st) := fun _ => rfl
theorem readEvents (st : Station) : Statement (Instr.readEvents st) := fun _ => rfl
theorem readClips (st : Station) : Statement (Instr.readClips st) := fun _ => rfl
theorem readIdent (st : Station) : Statement (Instr.readIdent st) := fun _ => rfl
theorem restart (st : Station) : Statement (Instr.restart st) := fun _ => rfl
theorem frameBoundary (inputs : Vector Sample 8) (late : Late) :
    Statement (Instr.frameBoundary inputs late) := fun _ => rfl
theorem beatBoundary (foldFirst : Bool) : Statement (Instr.beatBoundary foldFirst) := fun _ => rfl
theorem entryFire (order : FireOrder) : Statement (Instr.entryFire order) := fun _ => rfl
theorem takeLimitClose (h : HeadId) : Statement (Instr.takeLimitClose h) := fun _ => rfl
theorem shortTakeClose (h : HeadId) : Statement (Instr.shortTakeClose h) := fun _ => rfl
theorem passEnd (h : HeadId) (foldFirst : Bool) : Statement (Instr.passEnd h foldFirst) := fun _ => rfl
theorem fadeEnd (which : FadeSel) : Statement (Instr.fadeEnd which) := fun _ => rfl
theorem foldComplete : Statement (Instr.foldComplete) := fun _ => rfl
theorem supplyReading (sense : SenseInput) : Statement (Instr.supplyReading sense) := fun _ => rfl
theorem flashSectorDone (eraseFailed : Bool) (left : FlashLeft) :
    Statement (Instr.flashSectorDone eraseFailed left) := fun _ => rfl
theorem flashPageDone (faults : PageFaults) : Statement (Instr.flashPageDone faults) := fun _ => rfl
theorem verifyProgress (words : Nat) : Statement (Instr.verifyProgress words) := fun _ => rfl
theorem loadCopyDone (words : Nat) : Statement (Instr.loadCopyDone words) := fun _ => rfl
theorem optionRewriteDone (eraseFailed : Bool) (left : FlashLeft) (faults : PageFaults) :
    Statement (Instr.optionRewriteDone eraseFailed left faults) := fun _ => rfl
theorem replyPlaced (st : Station) : Statement (Instr.replyPlaced st) := fun _ => rfl

end Sys2Proof.Laws.Shape
end

