-- ==== Sys2Proof/Tests/Slice0.lean ====
section
/-! SUPPORT. Tests: ill-formed commands that the check refuses, small figures of the manual, and for every statement with
hypotheses a concrete state and operands that meet them. -/

set_option Elab.async false
set_option synthInstance.maxSize 1024

namespace Sys2Proof.Tests

open Sys2Proof.Machine

/-! ### Ill-formed commands -/

theorem test_wf_packet_length : (Instr.packetReceived 0 0#8 1#8 [] 254#8).wf = false := by decide
theorem test_wf_packet : (Instr.packetReceived 0 0#8 0#8 [] 255#8).wf = true := by decide
theorem test_wf_write_empty : (Instr.writeData 0 []).wf = false := by decide
theorem test_wf_write_long : (Instr.writeData 0 (List.replicate 61 0#32)).wf = false := by decide
theorem test_wf_write : (Instr.writeData 0 [1#32]).wf = true := by decide
theorem test_wf_startup_list : (Instr.setStartup 0 (List.replicate 5 (0#8, 0#16))).wf = false := by decide
theorem test_wf_power_left : (Instr.powerReset (Vector.replicate 4 ⟨false, false⟩) [(65536, 0#8)]).wf = false := by decide
theorem test_wf_brownout_left : (Instr.brownoutReset (Vector.replicate 4 ⟨false, false⟩) [(65536, 0#8)]).wf = false := by
  decide
theorem test_wf_pin_left : (Instr.pinReset (Vector.replicate 4 ⟨false, false⟩) [(65536, 0#8)]).wf = false := by decide
theorem test_wf_sector_left : (Instr.flashSectorDone true [(70000, 1#8)]).wf = false := by decide
theorem test_wf_page_index : (Instr.flashPageDone [(64, 0#32)]).wf = false := by decide
theorem test_wf_rewrite_left : (Instr.optionRewriteDone true [(65536, 1#8)] []).wf = false := by decide
theorem test_wf_rewrite_page : (Instr.optionRewriteDone false [] [(64, 1#32)]).wf = false := by decide

/-! ### States -/

/-- After a start-up that loaded nothing. -/
def ready : State := { State.reset with store := { Store.reset with engine := .idle, phase := .over } }

/-- With a grid of 24,000 frames a beat, four beats a bar and four bars a cycle. -/
def gridded : State := { ready with grid := { GridUnit.reset with tempo := some ⟨24000, 4, 4, 0, 0, 0⟩ } }

/-- A LIVE layer of one bar on track 0. -/
def barLayer : Layer :=
  { Layer.free with state := .live, track := some 0, origin := some .imported, length := 96000, spanLen := 96000,
                    env := 65536, extents := [⟨0, false⟩] }

/-- Track 0 PLAYING layer 0. -/
def playing : State :=
  (gridded.setTrack 0 { Track.reset with state := .playing, bars := 1, tlf := 96000, stack := [0] }).setLayer 0 barLayer

/-- Track 0 with a prepared layer 0. -/
def prepared : State :=
  (gridded.setTrack 0 { Track.reset with prepared := some 0 }).setLayer 0 { barLayer with state := .preparing, env := 0 }

/-- A window of station 0 on layer 0. -/
def windowed : State := playing.setWindow 0 ⟨.opened, some 0, 0, 3, .forward, 0, 7#32⟩

/-- Station 0's port with an executor. -/
def busy (e : Executor) (s : State) : State := s.setPort 0 { Port.reset with executor := e }

/-- The engine with an operation of station 0. -/
def working (j : StoreJob) (p : Nat) (s : State) : State :=
  { s with store := { s.store with engine := .busy, running := some ⟨j, 0, p, false, false⟩ } }

/-- A waiting entry of track 0 with count 0. -/
def due (a : Action) : Entry := ⟨0, a, .now, 0, some 0, false, 0, 0, 0, false⟩

/-- What head 0 holds of a first take of track 0 in layer 0. -/
def heldTake (m : HeadMode) (limit : Nat) (short look : Bool) : Held := ⟨0, 0, 0, m, limit, short, true, look⟩

/-- A first take of `pos` frames on head 0 in layer 0, with blocks 0 to `blocks` − 1. -/
def taking (m : HeadMode) (pos blocks limit : Nat) (short look : Bool) : State :=
  let s := gridded.setTrack 0 { Track.reset with state := .firstRec, pos := pos, take := some 0, takeStation := some 0 }
  let s := s.setLayer 0 { Layer.free with state := .recording, track := some 0, length := pos, spanLen := pos, env := 65536,
                                          extents := (List.range blocks).map fun b => ⟨b, false⟩ }
  let s := s.setHead 0 (some (heldTake m limit short look))
  { s with pool := { Pool.reset with free := List.range' blocks (8192 - blocks) } }

/-- A first take of one bar and more, its limit or its blocks reached. -/
def recording (short : Bool) (limit : Nat) : State := taking .first 98304 24 limit short false

/-- What head 0 holds of an overdub of track 0 in layer 1. -/
def heldPass : Held := ⟨0, 1, 0, .overdub, 0, false, true, false⟩

/-- An overdub pass of track 0 with `sl` frames, in layer 1 on head 0. -/
def overdubbing (sl : Nat) (stack : List LayerId) : State :=
  let s := playing.setTrack 0 { Track.reset with state := .overdub, bars := 1, tlf := 96000, stack := stack, take := some 1,
                                                 takeStation := some 0 }
  let s := s.setLayer 1 { barLayer with state := .recording, spanLen := sl,
                                        extents := (List.range' 1 24).map fun b => ⟨b, false⟩ }
  let s := s.setHead 0 (some heldPass)
  { s with pool := { Pool.reset with free := List.range' 25 (8192 - 25) } }

/-- An overdub of track 0 on head 0, and a newer first take of track 1 on head 1. -/
def twoTakes : State :=
  let s := (overdubbing 7 [0]).setTrack 1 { Track.reset with state := .firstRec, pos := 9, take := some 2, takeStation := some 1 }
  let s := s.setLayer 2 { Layer.free with state := .recording, track := some 1, length := 9, spanLen := 9, env := 65536,
                                          extents := [⟨30, false⟩, ⟨31, true⟩] }
  (s.setHead 0 (some { heldPass with newer := false })).setHead 1 (some ⟨1, 2, 0, .first, 3072000, false, true, false⟩)

/-- A pass that is complete. -/
def passing (stack : List LayerId) : State := overdubbing 96000 stack

/-- Track 0 PLAYING three layers, the lower two with the given marks. -/
def stacked (folding shed : Bool) : State :=
  let s := playing.setTrack 0 { playing.track 0 with stack := [0, 1, 2] }
  let s := s.setLayer 0 { barLayer with folding := folding, shed := shed }
  let s := s.setLayer 1 { barLayer with folding := folding, shed := shed, extents := [⟨1, false⟩] }
  s.setLayer 2 { barLayer with extents := [⟨2, false⟩] }

/-- A fold of layers 0 and 1 into layer 3 that has written `next` words. -/
def folding (paused due shed : Bool) (next : Nat) : State :=
  let s := (stacked true shed).setLayer 3 { foldRecord 0 96000 false with
    extents := (List.range' 3 24).map fun b => ⟨b, false⟩ }
  { s with
    fold := { s.fold with job := some ⟨0, 0, 1, 3, next⟩, advanceDue := due }
    budget := { s.budget with foldPaused := paused, shedList := if shed then [1, 5, 0] else [] }
    pool := { Pool.reset with free := List.range' 27 (8192 - 27) } }

/-- A state with one due entry. -/
def withEntry (e : Entry) (s : State) : State := { s with queue := [e] }

/-- A SET BANDS was taken in the frame in progress. -/
def newBands (s : State) : State := { s with budget := { s.budget with tableNew := true } }

/-- The band table's budgets are all `n`, and `n` is in force. -/
def tight (n : Nat) (s : State) : State :=
  { s with budget := { s.budget with limit := n, table := { BandTable.reset with budgets := Vector.replicate 4 n } } }

/-- An option record in the flash. -/
def recorded (o : OptionCopy) : State := programWords 1023 ((List.range 9).zip (optionRecord o)) State.reset

/-- An image of one beat and one bar at sector 0, its samples erased words, with a sample sum. -/
def image (sum : Word) : State :=
  programWords 0 [(0, Config.imageMark), (1, 12000#32), (2, 1#32), (3, 1#32), (4, 12000#32), (5, 65536#32), (6, 0#32), (7, 0#32),
    (8, 12000#32), (9, 0#32), (10, sum), (11, 0#32), (12, 0#32), (13, 0#32), (14, 0#32), (15, 0#32)] ready

def imaged : State := image 0#32

/-! ### Figures of the manual -/

/-- R2: the last position of the cycle is followed by the first. -/
theorem test_advance_wraps : (Tempo.mk 24000 4 4 3 3 23999).advance = ⟨24000, 4, 4, 0, 0, 0⟩ := by decide

/-- R56: a span of five words. -/
theorem test_edge_ramp : (List.range 5).map (edgeRamp { barLayer with spanLen := 5 }) = [1024, 2048, 3072, 2048, 1024] := by
  decide

/-- R116: the reset curve is at half at half its length. -/
theorem test_curve_half : curve Mixer.reset 128 = 32768 := by decide +kernel

/-- R125: one reading may take several steps. -/
theorem test_band_steps : moveBand BandTable.reset 1000 .full = .reserve ∧ moveBand BandTable.reset 1170 .reserve = .full := by
  decide

/-- R180: a NOP packet of station 0 passes the checks. -/
theorem test_nop_packet : packetCheck ready 0 0#8 0#8 [] 255#8 = .ok (.nop 0) := by rfl

/-- R191: the frame of a reply OK with no body. -/
theorem test_reply_frame : frameBytes ⟨0#8, []⟩ = [0#8, 0#8, 255#8] := by decide

/-! ### Witnesses: steps and invariants -/

theorem test_ready_invariants : Settled ready ∧ QueueOk ready ∧ SettingsOk ready ∧ MemoriesWf ready := by decide +kernel

theorem test_ready_steps : ∃ t, step ready = .next t := ⟨ready, rfl⟩

theorem test_queue_invariant : QueueOk { gridded with queue := [due .mute, { due .record with track := 1, remaining := 9 }] } := by
  decide +kernel

theorem test_grid_invariant : GridOk gridded := by
  intro g hg
  have e : g = ⟨24000, 4, 4, 0, 0, 0⟩ := (Option.some.inj hg).symm
  subst e
  decide

theorem busy_port : ∀ u : Station, u ≠ 0 → (busy (.holding (.nop 0)) ready).port u = ready.port u := by decide +kernel

theorem ready_port : ∀ u : Station, (ready.port u).executor = .ready := by decide +kernel

theorem test_held_invariant : HeldOk (busy (.holding (.nop 0)) ready) := by
  intro st i h
  by_cases e : st = 0
  · subst e
    have e : i = .nop 0 := (Executor.holding.inj h).symm
    subst e
    decide
  · rw [busy_port st e, ready_port st] at h
    cases h

/-- Blocks 0 to n − 1 in layers, the others in the free list. -/
theorem blocks_split (s : State) (n : Nat) (hn : n ≤ 8192) (hf : s.pool.free = List.range' n (8192 - n))
    (hb : s.layers.toList.flatMap Layer.blocks = List.range n)
    (he : ∀ l, (s.layer l).state = .free → (s.layer l).extents = []) (h1 : s.head 1 = none)
    (h0 : ∀ x, s.head 0 = some x → (s.layer x.layer).state ≠ .free) : BlocksOk s := by
  have only : ∀ h x, s.head h = some x → h = 0 := by
    intro h x k
    match h with
    | 0 => rfl
    | 1 => rw [h1] at k; cases k
  refine ⟨?_, he, ?_, ?_⟩
  · unfold allBlocks
    rw [hf, hb]
    have e : List.range 8192 = List.range n ++ List.range' n (8192 - n) := by
      have h := List.range'_append_1 (s := 0) (m := n) (n := 8192 - n)
      rw [Nat.zero_add, Nat.add_sub_cancel' hn] at h
      rw [List.range_eq_range', List.range_eq_range', h]
    rw [show Config.blockCount = 8192 from rfl, e]
    exact List.perm_append_comm
  · intro h x k
    have e := only h x k
    subst e
    exact h0 x k
  · intro h g x y k m _
    rw [only h x k, only g y m]

theorem blocks_fresh (s : State) (hf : s.pool.free = List.range' 0 8192) (hl : ∀ l, s.layer l = Layer.free)
    (hb : s.layers.toList.flatMap Layer.blocks = []) (hh : ∀ h, s.head h = none) : BlocksOk s :=
  blocks_split s 0 (by decide) hf (by rw [hb]; rfl) (fun l _ => by rw [hl]; rfl) (hh 1) (fun x k => by rw [hh] at k; cases k)

theorem pool_fresh : Pool.reset.free = List.range' 0 8192 := by
  simp only [Pool.reset, Config.blockCount]
  exact List.range_eq_range'

theorem test_blocks_invariant : BlocksOk ready :=
  blocks_fresh ready pool_fresh (by decide +kernel) (by decide +kernel) (by decide +kernel)

theorem test_envelopes_invariant : EnvelopesOk ready := by
  have el : ∀ l, ready.layer l = Layer.free := by decide +kernel
  have et : ∀ t, ready.track t = Track.reset := by decide +kernel
  exact ⟨fun t => by rw [et]; exact ⟨Nat.le_refl _, fun x h => by cases h⟩,
    fun l => by rw [el]; exact ⟨Nat.zero_le _, fun x h => by cases h⟩⟩

theorem test_windows_invariant : WindowsOk windowed ∧ (windowed.window 0).state = .opened := by
  unfold WindowsOk
  decide +kernel

theorem test_floor_invariant : FloorOk (working (.erase 1023 1) 0 ready) ∧
    releasing (working (.erase 1023 1) 0 ready) = false := by
  refine ⟨⟨by decide +kernel, fun op k h e => ?_⟩, by decide +kernel⟩
  have e2 : op = ⟨.erase 1023 1, 0, 0, false, false⟩ := (Option.some.inj h).symm
  subst e2
  have e3 : k = 1023 := (Option.some.inj e).symm
  subst e3
  decide +kernel

theorem no_load (s : State) (h : s.store.running = none) : ∀ op ∈ s.store.running, ∀ l first total sum check,
    op.job = StoreJob.load l first total sum check → (s.layer l).state = .preparing := by
  intro op ho
  rw [h] at ho
  cases ho

theorem test_roster_invariant : RosterOk (overdubbing 7 [0]) ∧ QueueOk (overdubbing 7 [0]) ∧ HeldOk (overdubbing 7 [0]) ∧
    streamCount (overdubbing 7 [0]) = 2 := by
  have ep : ∀ st, ((overdubbing 7 [0]).port st).executor = .ready := by decide +kernel
  refine ⟨⟨?_, ?_, ?_, ⟨no_load _ (by decide +kernel), by decide +kernel, fun e => ?_⟩, ?_⟩, by decide +kernel, fun st i h => ?_,
    by decide +kernel⟩
  · unfold TracksOk; decide +kernel
  · unfold HeadsOk; decide +kernel
  · unfold FoldOk; decide +kernel
  · exact absurd e (by decide +kernel)
  · unfold CountOk; decide +kernel
  · rw [ep st] at h; cases h

theorem test_roster_of_fold : FoldOk (folding false true false 0) ∧ TracksOk (folding false true false 0) ∧
    CountOk (folding false true false 0) := by
  unfold FoldOk TracksOk CountOk
  decide +kernel

/-! ### Witnesses: resets and start-up -/

theorem test_reset_end : State.reset.resets.inReset = false ∧ State.inPowerReset.resets.inReset = true ∧
    State.reset.store.running = none := by decide +kernel

theorem test_startup : State.reset.store.engine = .starting ∧ State.reset.store.running = none ∧
    State.reset.store.phase = .waiting ∧ readOption State.reset = none ∧
    readOption (recorded ⟨0, false, false, []⟩) = some ⟨0, false, false, []⟩ ∧
    readOption (recorded ⟨4, true, false, [(0, 5)]⟩) = some ⟨4, true, false, [(0, 5)]⟩ := by decide +kernel

theorem readByte_missing (d : Byte) (m : List Host.Cell) (x : Nat) (h : ∀ c ∈ m, c.1 < x) : readByte d m x = d := by
  induction m with
  | nil => rfl
  | cons c rest ih =>
    have e : x ≠ c.1 := fun e => absurd (h c (by simp)) (by omega)
    simp only [readByte, e, if_false]
    exact ih fun c hc => h c (by simp [hc])

/-- The image's samples are erased words. -/
theorem image_samples (w : Word) (i : Nat) (h : ∀ c ∈ (image w).flash, c.1 < 64) :
    flashWord (image w) 0 (16 + i) = 0xFFFFFFFF#32 := by
  have e : ∀ k, readByte flashDefault (image w).flash (Config.sectorBytes * 0 + 4 * (16 + i) + k) = flashDefault := fun k =>
    readByte_missing _ _ _ fun c hc => by
      have := h c hc
      omega
  have e0 := e 0
  simp only [flashWord, readWord, flashAddress, e]
  rw [Nat.add_zero] at e0
  simp only [e0]
  rfl

theorem sum_same (xs : List Nat) (f : Nat → Word) (v acc : Word) (h : ∀ i, f i = v) :
    xs.foldl (fun acc i => acc + f i) acc = acc + BitVec.ofNat 32 xs.length * v := by
  induction xs generalizing acc with
  | nil => simp
  | cons x rest ih =>
    rw [List.foldl_cons, ih, h, List.length_cons, BitVec.ofNat_add, BitVec.add_mul, BitVec.add_assoc, BitVec.add_comm (_ * v)]
    simp

/-- The words of the image add up to −12,000. -/
theorem image_total (w : Word) (h : ∀ c ∈ (image w).flash, c.1 < 64) :
    (List.range 12000).foldl (fun acc i => acc + flashWord (image w) 0 (16 + i)) 0#32 = 0#32 - 12000#32 := by
  rw [sum_same _ _ _ _ fun i => image_samples w i h, List.length_range]
  decide

theorem load_ok {x : Except StoreResult (Header × LayerId)} {v : Header × LayerId}
    (h : (match x with
      | .ok r => r == v
      | .error _ => false) = true) : x = .ok v := by
  cases x with
  | error _ => cases h
  | ok r => exact congrArg _ (by simpa using h)

theorem test_startup_entry :
    (loadCheck (image 12000#32) 0 3 = .ok (⟨12000, 1, 1, 12000, 65536, 0, 0, 12000, 0, 12000#32⟩, 0) ∧
      (image 12000#32).fold.job = none ∧ MemoriesWf (image 12000#32) ∧
      (List.range 12000).foldl (fun acc i => acc + flashWord (image 12000#32) 0 (16 + i)) 0#32 + 12000#32 = 0#32 ∧
      (image 12000#32).grid.tempo = none) ∧
      (loadCheck imaged 0 3 = .ok (⟨12000, 1, 1, 12000, 65536, 0, 0, 12000, 0, 0#32⟩, 0) ∧ imaged.fold.job = none ∧
        MemoriesWf imaged ∧ (List.range 12000).foldl (fun acc i => acc + flashWord imaged 0 (16 + i)) 0#32 + 0#32 ≠ 0#32) ∧
      loadCheck ready 0 3 = .error .badHeader := by
  refine ⟨⟨load_ok (by decide +kernel), by decide +kernel, by decide +kernel, ?_, by decide +kernel⟩,
    ⟨load_ok (by decide +kernel), by decide +kernel, by decide +kernel, ?_⟩, by rfl⟩
  · rw [image_total _ (by decide +kernel)]
    decide
  · rw [show imaged = image 0#32 from rfl, image_total _ (by decide +kernel)]
    decide

theorem test_startup_entry_blocks : BlocksOk (image 12000#32) ∧ BlocksOk imaged :=
  ⟨blocks_fresh _ pool_fresh (by decide +kernel) (by decide +kernel) (by decide +kernel),
    blocks_fresh _ pool_fresh (by decide +kernel) (by decide +kernel) (by decide +kernel)⟩

theorem test_startup_commit : let s := { prepared with store := { Store.reset with phase := .commitDue } }
    s.store.phase = .commitDue ∧ s.grid.tempo = some ⟨24000, 4, 4, 0, 0, 0⟩ ∧ (s.track 0).prepared = some 0 ∧
      (s.track 0).redo = [] ∧ (s.track 0).stack = [] ∧ ∀ u, u ≠ 0 → (s.track u).prepared = none := by decide +kernel

/-! ### Witnesses: ports -/

theorem test_cs_fall : (ready.port 0).csLow = false ∧ (ready.port 0).executor = .ready ∧ (ready.port 0).holder = none ∧
    ready.resets.inReset = false ∧ ((busy (.answered (plain .ok)) ready).port 0).executor ≠ .ready ∧
    ((ready.setPort 0 { Port.reset with csLow := true }).port 0).csLow = true ∧
    ((ready.setPort 0 { Port.reset with holder := some ⟨0#8, []⟩ }).port 0).holder = some ⟨0#8, []⟩ := by decide +kernel

theorem test_delivery : ((ready.setPort 0 { Port.reset with outHeld := true }).port 0).outHeld = true ∧
    (ready.port 0).outHeld = false := by decide +kernel

theorem test_packet : let s := ready.setPort 0 { Port.reset with csLow := true, rx := .receiving [] }
    (s.port 0).rx = .receiving [] ∧ (s.port 0).executor = .ready ∧ s.resets.inReset = false := by decide +kernel

theorem test_packet_ok : packetCheck (ready.setPort 0 { Port.reset with rx := .receiving [] }) 0 0#8 0#8 [] 255#8 =
    .ok (.nop 0) := by rfl

theorem test_packet_busy :
    ((ready.setPort 0 { Port.reset with rx := .receiving [], executor := .answered (plain .ok) }).port 0).executor ≠ .ready := by
  decide +kernel

theorem test_checks : (0x40 + 0 + 0 + 0) % 256 ≠ 255 ∧ (0x01 + 0 + 0 + 0xFE) % 256 = 255 ∧ parseBody 0 0x01 [] = none ∧
    parseBody 0 0x00 [1#8] = some none ∧ parseBody 0 0x21 [8#8] = some (some (.cancel 0 8#8)) ∧
    fieldsOk (.cancel 0 8#8) = false ∧ fieldsOk (.cancel 0 7#8) = true ∧ servedStarting (.cancel 0 7#8) = false ∧
    servedStarting (.nop 0) = true ∧ State.reset.store.engine = .starting ∧ ready.store.engine ≠ .starting := by
  decide +kernel

theorem test_placed : ((busy (.answered (plain .ok)) ready).port 0).executor = .answered (plain .ok) ∧
    (busy (.answered (plain .ok)) ready).resets.inReset = false := by decide +kernel

theorem test_outbound : let p := { Port.reset with csLow := true, out := some ⟨0x02#8, [7#8]⟩ }
    p.out = some ⟨0x02#8, [7#8]⟩ ∧ (List.range 6).map (outboundByte p) =
      [some 0x02#8, some 0x01#8, some 0x07#8, some 0xF5#8, some 0x00#8, some 0x00#8] ∧ outboundByte Port.reset 0 = none := by
  decide

theorem test_placing_held : ((busy (.holding (.nop 0)) ready).port 0).executor = .holding (.nop 0) ∧
    Taken (.nop 0) 0 (busy (.holding (.nop 0)) ready) := by decide +kernel

theorem test_turned_away : requestCheck ready (.cancel 0 8#8) = some .param ∧ canTake (ready.port 0) (.cancel 0 8#8) = true ∧
    canTake ((busy (.answered (plain .ok)) ready).port 0) (.nop 0) = false := by decide +kernel

/-! ### Witnesses: reads and settings -/

theorem test_reads : Settled ready ∧ Taken (.nop 0) 0 ready ∧ Taken (.readIdent 0) 0 ready ∧ Taken (.readGrid 0) 0 ready ∧
    Taken (.readGrid 0) 0 gridded ∧ Taken (.readTrack 0 7#8) 0 ready ∧ Taken (.readLayer 0 63#8) 0 ready ∧
    Taken (.readSupply 0) 0 ready ∧ Taken (.readStore 0) 0 ready ∧ Taken (.readEvents 0) 0 ready ∧
    Taken (.readClips 0) 0 ready := by decide +kernel

theorem test_settings : Settled ready ∧ Taken (.setLowMark 0 65535#16) 0 ready ∧ Taken (.setFold 0 1#16) 0 ready ∧
    Taken (.setBus 0 0xFFFFFF#24 0#24) 0 ready ∧ Taken (.setCapture 0 16#8 12#8 0#16 65535#16) 0 ready ∧
    Taken (.setFade 0 0#16 (Vector.replicate 16 255#8)) 0 ready ∧ Taken (.setRouting 0 3#8 16383#16) 0 ready ∧
    Taken (.setBands 0 1150#16 1100#16 1050#16 20#16 #v[48#16, 32#16, 16#16, 8#16]
      #v[0xFFFFFF#24, 7471104#24, 5931642#24, 0#24]) 0 ready ∧ Taken (.restart 0) 0 ready := by decide +kernel

theorem test_low_mark : ({ ready with pool := { Pool.reset with belowMark := true } }).pool.belowMark = true ∧
    (allocate 0 1 { ready with pool := { Pool.reset with belowMark := true } }).isSome = true := by decide +kernel

theorem test_restart_with_held : let s := ready.setPort 1 { Port.reset with executor := .holding (.setFold 1 3#16) }
    Taken (.restart 0) 0 s ∧ (s.port 1).executor = .holding (.setFold 1 3#16) ∧ requester (.setFold 1 3#16) = some 1 ∧
      Taken (.setFold 1 3#16) 1 s ∧ (ready.port 1).executor = .ready ∧
      (stations.foldl (runHeld 0) s).fold.threshold = 3 := by decide +kernel

/-- A state in which an operation runs when the RESTART of station 1 comes. -/
theorem test_restart_with_operation (j : StoreJob)
    (h : j ∈ [StoreJob.blankCheck 0 2, .sum 0 2 0#16, .verify 0 0 30 0 0, .load 0 0 30 0#32 0#32, .erase 0 2, .protect,
      .setStartup, .release 4, .save 0 0 [] 96016 0#32 (.pages 0) [] []]) :
    Taken (.restart 1) 1 (working j 0 ready) ∧
      (stations.foldl (runHeld 1) (working j 0 ready)).store.running = some ⟨j, 0, 0, false, false⟩ := by
  simp only [List.mem_cons, List.not_mem_nil, or_false] at h
  rcases h with h | h | h | h | h | h | h | h | h <;> subst h <;> decide +kernel

/-! ### Witnesses: grid, tracks, queue -/

theorem test_grid_requests : Taken (.setGrid 0 12000#16 1#8 1#8) 0 ready ∧ gridInUse ready = false ∧ gridInUse playing = true ∧
    gridInUse gridded = false ∧ Taken (.setGrid 0 48000#16 12#8 16#8) 0 gridded ∧ Taken (.clearGrid 0) 0 gridded ∧
    Taken (.clearGrid 0) 0 ready ∧ Taken (.clearGrid 0) 0 playing ∧ Taken (.setGrid 0 24000#16 4#8 4#8) 0 playing ∧ gridded.grid.tempo ≠ none ∧
    ready.grid.tempo = none := by decide +kernel

theorem test_beat : let s := { gridded with grid := { gridded.grid with beatDue := true } }
    let u := { gridded with grid := { gridded.grid with beatDue := true, tempo := some ⟨24000, 4, 4, 1, 1, 0⟩ } }
    s.grid.beatDue = true ∧ (s.grid.tempo.map Tempo.f) = some 0 ∧ (u.grid.tempo.map Tempo.beat) = some 1 := by decide +kernel

/-- Layer 0 shed, in a budget of n. -/
def shedOnce (n : Nat) : State :=
  tight n { playing.setLayer 0 { barLayer with shed := true, env := 0 } with budget := { playing.budget with shedList := [0] } }

theorem test_restore : (shedOnce 1).budget.shedList.Nodup ∧ (shedOnce 1).budget.shedList = [] ++ [0] ∧
    streamCount (shedOnce 1) + 1 ≤ (shedOnce 1).budget.limit ∧ (shedOnce 0).budget.limit < streamCount (shedOnce 0) + 1 ∧
    ready.budget.shedList = [] := by decide +kernel

/-- Track 0 with the fold-wanted flag, a fold threshold and a budget. -/
def wanting (ft n : Nat) : State :=
  let s := (stacked false false).modTrack 0 fun x => { x with foldWanted := true }
  tight n { s with fold := { s.fold with threshold := ft } }

theorem test_fold_start : let s := wanting 3 6
    (s.fold.job = none ∧ (s.track 0).foldWanted = true ∧ (∀ u, u < (0 : TrackId) → (s.track u).foldWanted = false) ∧
      s.fold.threshold ≠ 0 ∧ s.fold.threshold ≤ (s.track 0).stack.length ∧ (s.track 0).stack = 0 :: 1 :: [2] ∧
      (s.layer 0).state = .live ∧ (s.layer 1).state = .live ∧ s.budget.band = .full ∧
      streamCount s + 3 ≤ s.budget.limit ∧ freeSlot s = some 3 ∧ ((s.track 0).tlf + 4095) / 4096 ≤ s.pool.free.length) ∧
      (wanting 3 5).budget.limit < streamCount (wanting 3 5) + 3 ∧
      ((wanting 4 6).track 0).stack.length < (wanting 4 6).fold.threshold := by decide +kernel

theorem test_act : let i := Instr.act 0 0#8 0#8 0#8 0#8 0#8 0#8
    Taken i 0 ready ∧ Action.ofByte 0#8 = some .record ∧ Quantize.ofByte 0#8 = some .now ∧
      actionTest ready 0 .record false = none ∧ waiting ready 0 = none ∧ actionTest ready 0 .mute false = some .state ∧
      waiting { ready with queue := [due .record] } 0 = some (due .record) ∧
      (due .record).action = .record ∧ (due .commit).action ≠ .record ∧ (due .commit).station = 0 ∧
      ({ due .commit with station := 1 }).station ≠ 0 := by decide +kernel

theorem test_cancel : Taken (.cancel 0 0#8) 0 { ready with queue := [due .record] } ∧ Taken (.cancel 1 0#8) 1 ready := by
  decide +kernel

theorem test_wait : gridded.grid.tempo = some ⟨24000, 4, 4, 0, 0, 0⟩ ∧ ready.grid.tempo = none ∧ hasGrace .record = true ∧
    hasGrace .mute = false ∧ 0 % 96000 ≤ gridded.grid.grace ∧ ((recording false 0).track 0).state = .firstRec ∧
    96000 ≤ ((recording false 0).track 0).pos ∧ ((recording false 0).track 0).pos % 96000 ≤ gridded.grid.grace := by
  decide +kernel

theorem test_track_settings : Settled ready ∧ Taken (.setTrack 0 7#8 0xFFFFFF#24 2#8 7#8) 0 ready ∧
    Bus.ofByte 2#8 = some .both ∧ Taken (.unguard 0 7#8) 0 ready ∧ Taken (.guard 0 7#8 31#8) 0 ready ∧
    canTake (ready.port 0) (.guard 0 8#8 0#8) = true ∧ (ready.track 7).guards.noEdit = false ∧
    (ready.track 7).guards.fixed = false := by decide +kernel

theorem test_track_guarded : let s := ready.setTrack 0 { Track.reset with guards := ⟨false, false, false, true, true⟩ }
    Settled s ∧ Taken (.setTrack 0 0#8 0#24 0#8 0#8) 0 s ∧ Taken (.unguard 0 0#8) 0 s ∧ (s.track 0).guards.noEdit = true ∧
      (s.track 0).guards.fixed = true := by decide +kernel

/-! ### Witnesses: layers and windows -/

theorem test_layer_settings : Settled playing ∧ Taken (.setLayer 0 0#8 0xFFFFFF#24 1#8) 0 playing ∧
    Taken (.setLayer 0 63#8 0#24 0#8) 0 playing ∧ Taken (.rotate 0 0#8 0xFFFFFFFF#32) 0 playing ∧
    (playing.layer 0).state = .live ∧ (playing.layer 63).state = .free ∧ layerNoEdit playing 0 = false := by decide +kernel

theorem test_layer_guarded :
    let s := playing.setTrack 0 { playing.track 0 with guards := ⟨false, false, false, true, false⟩ }
    Settled s ∧ Taken (.setLayer 0 0#8 0#24 0#8) 0 s ∧ Taken (.rotate 0 0#8 1#32) 0 s ∧ layerNoEdit s 0 = true := by
  decide +kernel

theorem test_create : Taken (.createLayer 0 0#8 1#8) 0 gridded ∧ Taken (.createLayer 0 0#8 0#8) 0 gridded ∧
    gridded.grid.tempo ≠ none ∧ (gridded.track 0).guards.noEdit = false ∧ (gridded.track 0).state = .empty ∧
    (gridded.track 0).prepared = none ∧ freeSlot gridded = some 0 ∧
    (allocate 0 (blocksFor (createLength gridded 0 1#8)) (gridded.setLayer 0 (createRecord 0 96000))).isSome = true := by
  decide +kernel

theorem test_create_refused : (prepared.track 0).prepared ≠ none ∧ Taken (.createLayer 0 0#8 1#8) 0 prepared ∧
    freeSlot { gridded with layers := Vector.replicate 64 barLayer } = none ∧
    Taken (.createLayer 0 0#8 1#8) 0 { gridded with layers := Vector.replicate 64 barLayer } ∧
    ({ gridded with pool := { Pool.reset with free := [] } }).pool.free.length < blocksFor 96000 := by decide +kernel

theorem test_open : Settled playing ∧ Taken (.openWindow 0 0#8 0#32 95999#32 1#8) 0 playing ∧
    Direction.ofByte 1#8 = some .reverse ∧ (playing.layer 0).state = .live ∧ 95999 < (playing.layer 0).length ∧
    Taken (.openWindow 0 1#8 0#32 0#32 0#8) 0 playing ∧ (playing.layer 1).state = .free := by decide +kernel

theorem test_open_loading : let s := working (.load 0 0 96000 0#32 0#32) 0 prepared
    Settled s ∧ Taken (.openWindow 0 0#8 0#32 0#32 0#8) 0 s ∧ (s.layer 0).state = .preparing ∧ loadFilling s 0 = true ∧
      loadFilling prepared 0 = false := by decide +kernel

theorem test_window_data : Settled windowed ∧ Taken (.readData 0 60#8) 0 windowed ∧ Taken (.readData 0 1#8) 0 windowed ∧
    Taken (.writeData 0 [0x800000#32]) 0 windowed ∧ (windowed.window 0).state = .opened ∧
    (windowed.window 0).layer = some 0 ∧ layerNoEdit windowed 0 = false ∧ (windowed.layer 0).folding = false := by
  decide +kernel

theorem test_window_refused : (ready.window 0).state = .closed ∧ Taken (.readData 0 1#8) 0 ready ∧
    Taken (.writeData 0 [0#32]) 0 ready ∧ Taken (.closeWindow 0) 0 ready ∧ Taken (.closeWindow 0) 0 windowed ∧
    ready.window 0 = { Window.reset with holder := (ready.window 0).holder } ∧
    ((ready.setWindow 0 { Window.reset with state := .lost }).window 0).state = .lost ∧
    Taken (.readData 0 1#8) 0 (ready.setWindow 0 { Window.reset with state := .lost }) := by decide +kernel

/-- The window of station 0 onto a layer of a track that carries NO_EDIT. -/
def windowedGuarded : State :=
  windowed.setTrack 0 { windowed.track 0 with guards := ⟨false, false, false, true, false⟩ }

/-- The window of station 0 onto a source of a fold. -/
def windowedFolding : State := windowed.setLayer 0 { barLayer with folding := true }

theorem test_window_guarded : Settled windowedGuarded ∧ Taken (.writeData 0 [0#32]) 0 windowedGuarded ∧
    layerNoEdit windowedGuarded 0 = true := by decide +kernel

theorem test_window_folding : Settled windowedFolding ∧ Taken (.writeData 0 [0#32]) 0 windowedFolding ∧
    layerNoEdit windowedFolding 0 = false ∧ (windowedFolding.layer 0).folding = true := by decide +kernel

theorem test_pointer : let w : Window := ⟨.opened, some 0, 2, 5, .reverse, 2, 0#32⟩
    w.start ≤ w.pointer ∧ w.pointer ≤ w.stop ∧ stepPointer w = 5 ∧ stepPointer { w with direction := .forward, pointer := 5 } = 2 := by
  decide

theorem test_stored_word : Memory.wf dramDefault playing.dram ∧ 4095 / 4096 < (playing.layer 0).extents.length ∧
    (playing.layer 0).blocks.Nodup ∧ ((2 : LayerId) ≠ 0 ∧ ∀ b ∈ (playing.layer 0).blocks, b ∉ (playing.layer 2).blocks) := by
  decide +kernel

theorem test_allocation : ready.pool.free.length < 8193 ∧ 8192 ≤ ready.pool.free.length := by decide +kernel

/-! ### Witnesses: the store -/

theorem test_store_tests : let s := working (.sum 0 1 0#16) 0 ready
    let r := { ready with budget := { Budget.reset with band := .reserve } }
    Settled s ∧ Taken (.erase 0 0#16 1#16) 0 s ∧ Taken (.load 0 0#16 0#8) 0 s ∧ s.store.engine = .busy ∧ Settled r ∧
      Taken (.release 0) 0 r ∧ r.store.engine ≠ .busy ∧ r.budget.band = .reserve ∧ storeWrites (.release 0) = some true ∧
      storeWrites (.load 0 0#16 0#8) = some false := by decide +kernel

/-- A store with floor 0 and every mark set. -/
def open_ : State :=
  { playing with store := { Store.reset with engine := .idle, phase := .over, option := ⟨0, false, false, []⟩
                                             erased := List.range 10 } }

theorem test_sector_operations : Settled ready ∧ ready.store.engine ≠ .busy ∧ ready.budget.band ≠ .reserve ∧
    Taken (.erase 0 1022#16 1#16) 0 ready ∧ Taken (.erase 0 1022#16 2#16) 0 ready ∧ ready.store.option.floor = 1023 ∧
    Taken (.erase 0 0#16 1023#16) 0 open_ ∧ open_.store.option.floor = 0 ∧ Taken (.blankCheck 0 0#16 1023#16) 0 ready ∧
    Taken (.blankCheck 0 1#16 1023#16) 0 ready ∧ Taken (.sum 0 0#16 1024#16) 0 ready ∧ Taken (.sum 0 1#16 1024#16) 0 ready := by
  decide +kernel

theorem test_image_operations : Settled open_ ∧ Taken (.save 0 0#8 0#16) 0 open_ ∧ Taken (.verify 0 0#8 0#16) 0 open_ ∧
    imageLayerOk open_ 0 = true ∧ imageLayerOk open_ 1 = false ∧ (16 + (open_.layer 0).length + 16383) / 16384 = 6 ∧
    (∀ k ∈ List.range' 0 6, k ∈ open_.store.erased) ∧ (∃ k ∈ List.range' 9 6, k ∉ open_.store.erased) ∧
    Taken (.save 0 0#8 9#16) 0 open_ ∧ Taken (.save 0 0#8 1022#16) 0 open_ ∧ Taken (.save 0 1#8 0#16) 0 open_ ∧
    Taken (.save 0 0#8 0#16) 0 playing ∧ imageLayerOk playing 0 = true ∧ 0 < playing.store.option.floor := by decide +kernel

theorem test_load : Taken (.load 0 0#16 0#8) 0 open_ ∧ open_.store.engine = .idle ∧ (open_.track 0).state ≠ .firstRec ∧
    (open_.track 0).prepared = none ∧ (open_.track 0).guards.noEdit = false ∧ (prepared.track 0).prepared ≠ none ∧
    Taken (.load 0 0#16 0#8) 0 prepared := by decide +kernel

theorem test_load_bad_header : loadCheck open_ 0 0 = .error .badHeader := by rfl

theorem test_load_good_header : (match loadCheck imaged 0 0 with
    | .ok (h, l) => h.length == 12000 && l == 0
    | .error _ => false) = true ∧ Taken (.load 0 0#16 0#8) 0 imaged ∧ imaged.store.engine = .idle ∧
    imaged.grid.tempo = none := by decide +kernel

theorem test_option_operations : let b := { open_ with store := { open_.store with option := ⟨5, true, true, []⟩ } }
    Settled open_ ∧ Taken (.protect 0 1023#16 3#8) 0 open_ ∧ Taken (.setStartup 0 [(0#8, 1022#16)]) 0 open_ ∧
      Taken (.release 0) 0 open_ ∧ Settled b ∧ Taken (.protect 0 4#16 3#8) 0 b ∧ Taken (.setStartup 0 []) 0 b ∧
      Taken (.release 0) 0 b ∧ b.store.option.releaseBarred = true ∧ b.store.option.startupFixed = true := by decide +kernel

theorem test_abort : Taken (.abortStore 0) 0 ready ∧ ready.store.running = none ∧
    Taken (.abortStore 0) 0 (working (.erase 0 1) 0 ready) ∧ Taken (.abortStore 0) 0 (working .protect 0 ready) ∧
    Taken (.abortStore 0) 0 (working (.blankCheck 0 1) 0 ready) ∧
    Taken (.abortStore 0) 0 (working (.load 0 0 96000 0#32 0#32) 0 prepared) ∧ prepared.fold.job = none ∧
    StoreJob.kind (.erase 0 1) = .erase ∧ StoreJob.kind (.blankCheck 0 1) = .blankCheck ∧ StoreJob.kind .protect = .protect := by
  decide +kernel

theorem test_sector_done : (working (.erase 3 2) 0 ready).store.running = some ⟨.erase 3 2, 0, 0, false, false⟩ ∧
    leftWf [(65535, 0#8)] = true ∧ MemoriesWf (working (.erase 3 2) 0 ready) ∧ 0 + 1 < 2 ∧ 2 ≤ 1 + 1 := by decide +kernel

theorem test_check_and_sum : Settled (working (.blankCheck 0 2) 0 imaged) ∧
    sectorErased (working (.blankCheck 0 2) 0 imaged) 0 = false ∧ Settled (working (.blankCheck 0 2) 0 ready) ∧
    sectorErased (working (.blankCheck 0 2) 0 ready) 0 = true ∧ sectorErased (working (.blankCheck 0 2) 1 ready) 1 = true ∧
    Settled (working (.sum 0 2 0#16) 0 ready) ∧ Settled (working (.sum 0 2 0#16) 1 ready) := by decide +kernel

theorem test_image_advance : let s := working (.save 0 0 [] 96016 0#32 (.pages 0) [] []) 0 open_
    let b := working (.save 0 0 [] 96016 0#32 (.readBack 1500) [] []) 96016 open_
    Settled s ∧ s.store.running = some ⟨.save 0 0 [] 96016 0#32 (.pages 0) [] [], 0, 0, false, false⟩ ∧ Settled b ∧
      96016 ≤ 64 * (1500 + 1) := by decide +kernel

theorem test_save_ends (ph : SavePhase) (bad : List Nat)
    (h : (ph, bad) ∈ [(SavePhase.finish, []), (.readBack 0, []), (.readBack 1500, []), (.readBack 0, [20])]) :
    Settled (working (.save 0 0 [] 96016 0#32 ph bad []) 96016 open_) ∧
      (working (.save 0 0 [] 96016 0#32 ph bad []) 96016 open_).store.running =
        some ⟨.save 0 0 [] 96016 0#32 ph bad [], 0, 96016, false, false⟩ := by
  simp only [List.mem_cons, List.not_mem_nil, or_false, Prod.mk.injEq] at h
  rcases h with h | h | h | h <;> obtain ⟨rfl, rfl⟩ := h <;> decide +kernel

theorem test_verify_and_load : (working (.verify 0 0 96016 0 0) 0 open_).store.running =
      some ⟨.verify 0 0 96016 0 0, 0, 0, false, false⟩ ∧
    (working (.load 0 0 96000 0#32 0#32) 0 prepared).store.running =
      some ⟨.load 0 0 96000 0#32 0#32, 0, 0, false, false⟩ := by decide +kernel

theorem test_load_fails : let s := working (.load 0 0 20 0#32 5#32) 19 { prepared with flash := [] }
    s.store.running = some ⟨.load 0 0 20 0#32 5#32, 0, 19, false, false⟩ ∧ 20 ≤ 19 + min 1 (20 - 19) ∧
      (copyWords 0 0 (min 1 (20 - 19)) 19 0#32 s).1 + 5#32 ≠ 0#32 ∧ s.fold.job = none ∧ s.fold.attemptDue = false ∧
      (s.layer 0).track = some 0 := by decide +kernel

theorem test_release : let o : OptionCopy := ⟨2, false, true, [(3, 1022), (0, 0)]⟩
    let s := working (.release 2) 1 { ready with store := { ready.store with option := o } }
    let u := working (.release 2) 2 { ready with store := { ready.store with option := ⟨0, false, false, []⟩ } }
    let p := working .protect 0 { ready with store := { ready.store with option := o } }
    (leftWf [(0, 0#8)] = true ∧ MemoriesWf s ∧ s.store.running = some ⟨.release 2, 0, 1, false, false⟩ ∧ 1 < 2) ∧
      (MemoriesWf u ∧ u.store.running = some ⟨.release 2, 0, 2, false, false⟩ ∧ 2 ≤ 2) ∧
      (MemoriesWf p ∧ p.store.running = some ⟨.protect, 0, 0, false, false⟩ ∧ o.floor ≤ 1023 ∧ o.list.length ≤ 4 ∧
        (o.list.map Prod.fst).Nodup ∧ ∀ e ∈ o.list, e.2 ≤ 1022) := by decide +kernel

theorem test_rewrite : leftWf [] = true ∧ MemoriesWf (working .setStartup 0 ready) ∧
    (working .setStartup 0 ready).store.running = some ⟨.setStartup, 0, 0, false, false⟩ := by decide +kernel

/-! ### Witnesses: the frame boundary -/

theorem test_quiet_boundary : Settled playing ∧ anyDue playing = false ∧ (∀ h, playing.head h = none) ∧
    playing.fold.job = none ∧ playing.budget.tableNew = false ∧ playing.store.phase ≠ .loaded ∧
    playing.resets.inReset = false ∧ State.inPowerReset.resets.inReset = true := by decide +kernel

/-- A head that is held, or not, is the only one. -/
theorem only_first {s : State} (h1 : s.head 1 = none) (g : HeadId) (x : Held) (h : s.head g = some x) : g = 0 := by
  match g with
  | 0 => rfl
  | 1 => rw [h1] at h; cases h

theorem test_boundary_first_take :
    let s := taking .first 4095 1 3072000 false false
    let u := taking .first 4094 1 3072000 false false
    (s.resets.inReset = false ∧ Settled s ∧ anyDue s = false ∧ s.head 0 = some (heldTake .first 3072000 false false) ∧
      s.head (otherHead 0) = none ∧ s.fold.job = none ∧ s.budget.tableNew = false ∧ MemoriesWf s) ∧
      HeadMode.first ≠ .overdub ∧ (s.track 0).state = .firstRec ∧ 4095 / 4096 < (s.layer 0).extents.length ∧
      ((s.layer 0).extents.length = 4096 / 4096 + 1 → False) ∧
      (Settled u ∧ anyDue u = false ∧ MemoriesWf u ∧ (u.layer 0).extents.length = 4095 / 4096 + 1 ∧
        (4095 / 4096 + 1) * 4096 < 3072000 ∧ u.pool.free ≠ []) := by decide +kernel

theorem test_boundary_first_take_blocks : BlocksOk (taking .first 4094 1 3072000 false false) :=
  blocks_split _ 1 (by decide) rfl (by decide +kernel) (by decide +kernel) (by decide +kernel)
    (fun x h => by
      have e : (taking .first 4094 1 3072000 false false).head 0 = some (heldTake .first 3072000 false false) := by decide +kernel
      rw [e] at h
      cases h
      decide +kernel)

theorem test_boundary_overdub : let s := overdubbing 7 [0]
    s.resets.inReset = false ∧ Settled s ∧ anyDue s = false ∧ s.head 0 = some heldPass ∧ s.head (otherHead 0) = none ∧
      s.fold.job = none ∧ s.budget.tableNew = false ∧ MemoriesWf s ∧ heldPass.mode = .overdub ∧ (s.layer 1).length ≠ 0 ∧
      ((s.layer 1).spanStart + (s.layer 1).spanLen) % (s.layer 1).length / 4096 < (s.layer 1).extents.length := by
  decide +kernel

theorem test_boundary_overdub_blocks : BlocksOk (overdubbing 7 [0]) :=
  blocks_split _ 25 (by decide) rfl (by decide +kernel) (by decide +kernel) (by decide +kernel)
    (fun x h => by
      have e : (overdubbing 7 [0]).head 0 = some heldPass := by decide +kernel
      rw [e] at h
      cases h
      decide +kernel)

theorem test_look_ahead : let s := taking .first 4094 1 3072000 false true
    let u := { s with pool := { s.pool with free := [] } }
    Settled s ∧ s.head 0 = some (heldTake .first 3072000 false true) ∧ (heldTake .first 3072000 false true).lookDue = true ∧
      lookWanted s (heldTake .first 3072000 false true) = true ∧ s.pool.free ≠ [] ∧ Settled u ∧
      u.head 0 = some (heldTake .first 3072000 false true) ∧ lookWanted u (heldTake .first 3072000 false true) = true ∧
      u.pool.free = [] := by decide +kernel

theorem test_boundary_fold : let s := folding false false false 16
    let p := folding true false false 16
    let e := folding false false false 95990
    (s.resets.inReset = false ∧ Settled s ∧ anyDue s = false ∧ (∀ h, s.head h = none) ∧ s.fold.job = some ⟨0, 0, 1, 3, 16⟩ ∧
      s.budget.tableNew = false ∧ s.budget.foldPaused = false ∧ 16 + 16 < (s.track 0).tlf ∧ MemoriesWf s ∧
      (16 + 15) / 4096 < (s.layer 3).extents.length) ∧
      (Settled p ∧ anyDue p = false ∧ p.budget.foldPaused = true) ∧
      (Settled e ∧ anyDue e = false ∧ (e.track 0).tlf ≤ 95990 + 16) := by decide +kernel

theorem test_boundary_fold_blocks : BlocksOk (folding false false false 16) :=
  blocks_split _ 27 (by decide) rfl (by decide +kernel) (by decide +kernel) (by decide +kernel)
    (fun x h => by
      have e : (folding false false false 16).head 0 = none := by decide +kernel
      rw [e] at h
      cases h)

theorem test_boundary_bands : let s := newBands playing
    s.resets.inReset = false ∧ Settled s ∧ anyDue s = false ∧ (∀ h, s.head h = none) ∧ s.fold.job = none ∧
      s.budget.tableNew = true ∧ streamCount s ≤ s.budget.table.budgets.get s.budget.band.index := by decide +kernel

/-! ### Witnesses: firing -/

theorem test_due_fades : let s := withEntry (due .mute) playing
    let u := withEntry (due .unmute) (playing.setTrack 0 { playing.track 0 with state := .muted, env := 0 })
    OneDue ⟨false, false⟩ (due .mute) s ∧ actionTest s 0 .mute false = none ∧
      OneDue ⟨true, true⟩ (due .unmute) u ∧ actionTest u 0 .unmute false = none ∧
      OneDue ⟨false, true⟩ (due .mute) (withEntry (due .mute) ready) ∧
      actionTest (withEntry (due .mute) ready) 0 .mute false = some .state := by decide +kernel

/-- Track 0 PLAYING three layers with a redo list of four. -/
def redoFull : State :=
  let s := (stacked false false).modTrack 0 fun x => { x with redo := [4, 5, 6, 7] }
  let r : Layer := { barLayer with state := .redo, env := 0, extents := [] }
  (((s.setLayer 4 r).setLayer 5 r).setLayer 6 r).setLayer 7 r

theorem test_due_undo_layer : let s := withEntry (due .undo) (stacked false false)
    let u := withEntry (due .undo) redoFull
    (OneDue ⟨false, false⟩ (due .undo) s ∧ actionTest s 0 .undo false = none ∧ (s.track 0).state = .playing ∧
      (s.track 0).stack = [0, 1] ++ [2] ∧ s.fold.job = none ∧ (s.track 0).redo.length < 4 ∧ (s.layer 2).env ≠ 0 ∧
      s.budget.reserve.length < 8) ∧
      (OneDue ⟨false, false⟩ (due .undo) u ∧ actionTest u 0 .undo false = none ∧ (u.track 0).redo = [4, 5, 6] ++ [7] ∧
        u.fold.job = none ∧ (u.layer 7).track = some 0 ∧ (7 : LayerId) ∉ (u.track 0).stack ∧ (7 : LayerId) ∉ ([4, 5, 6] : List LayerId)) := by
  decide +kernel

theorem test_due_undo_cut : let s := withEntry (due .undo) (stacked false false)
    let f := { s with budget := { s.budget with reserve := [40, 41, 42, 43, 44, 45, 46, 47] } }
    let z := s.setLayer 2 { s.layer 2 with env := 0 }
    OneDue ⟨false, false⟩ (due .undo) f ∧ actionTest f 0 .undo false = none ∧ (2 : LayerId) ∉ f.budget.reserve ∧
      8 ≤ f.budget.reserve.length ∧ OneDue ⟨false, false⟩ (due .undo) z ∧ actionTest z 0 .undo false = none ∧
      (z.layer 2).env = 0 := by decide +kernel

theorem test_due_undo_take : let s := withEntry (due .undo) (taking .first 100 2 3072000 false false)
    let u := withEntry (due .undo) (overdubbing 7 [0])
    (OneDue ⟨false, false⟩ (due .undo) s ∧ actionTest s 0 .undo false = none ∧ (s.track 0).state = .firstRec ∧
      (s.layer 0).track = some 0 ∧ s.fold.job = none ∧ s.head 1 = none ∧ (s.track 0).take = some 0) ∧
      (OneDue ⟨false, false⟩ (due .undo) u ∧ actionTest u 0 .undo false = none ∧ (u.track 0).state = .overdub ∧
        (u.layer 1).track = some 0 ∧ u.fold.job = none ∧ u.head 1 = none ∧ (u.track 0).take = some 1) := by decide +kernel

theorem test_records : Records 0 (heldTake .first 3072000 false false) 0 0 (taking .first 100 2 3072000 false false) ∧
    Records 0 heldPass 0 1 (overdubbing 7 [0]) :=
  ⟨⟨by decide +kernel, rfl, rfl, by decide +kernel, fun g x h _ => only_first (by decide +kernel) g x h⟩,
    ⟨by decide +kernel, rfl, rfl, by decide +kernel, fun g x h _ => only_first (by decide +kernel) g x h⟩⟩

theorem test_due_redo_commit : let s := withEntry (due .redo) (redoFull.setLayer 4 { barLayer with state := .redo })
    let c := withEntry (due .commit) prepared
    let p := withEntry (due .commit) ((redoFull.modTrack 0 fun x => { x with prepared := some 9 }).setLayer
      9 { barLayer with state := .preparing })
    let b := withEntry (due .commit) { prepared with budget := { prepared.budget with limit := 0 } }
    (OneDue ⟨false, false⟩ (due .redo) s ∧ actionTest s 0 .redo false = none ∧ (s.track 0).redo = 4 :: [5, 6, 7] ∧
      (s.layer 4).state = .redo ∧ (admitOnto 0 s).isSome = true) ∧
      (OneDue ⟨false, false⟩ (due .commit) c ∧ actionTest c 0 .commit false = none ∧ (c.track 0).prepared = some 0 ∧
        (c.layer 0).state = .preparing ∧ (admitOnto 0 c).isSome = true ∧ c.fold.job = none ∧ (c.track 0).state = .empty ∧
        (c.track 0).redo = []) ∧
      (OneDue ⟨false, false⟩ (due .commit) p ∧ actionTest p 0 .commit false = none ∧ (p.track 0).prepared = some 9 ∧
        (p.layer 9).state = .preparing ∧ (admitOnto 0 p).isSome = true ∧ (p.track 0).state ≠ .empty ∧
        ∀ m ∈ (p.track 0).redo, (p.layer m).track = some 0 ∧ m ∉ (p.track 0).stack ∧ m ≠ 9) ∧
      (OneDue ⟨false, false⟩ (due .commit) b ∧ actionTest b 0 .commit false = none ∧ (admitOnto 0 b).isNone = true) := by
  decide +kernel

theorem test_due_clear : let s := withEntry (due .clear) (overdubbing 7 [0])
    OneDue ⟨false, false⟩ (due .clear) s ∧ actionTest s 0 .clear false = none ∧ s.fold.job = none ∧
      (s.track 0).take.toList ++ (s.track 0).stack ++ (s.track 0).redo ++ (s.track 0).prepared.toList = [1, 0] ∧
      (s.layer 1).track = some 0 ∧ (s.layer 0).track = some 0 := by decide +kernel

/-- A STOP with a backdate. -/
def stopEntry (d : Nat) : Entry := { due .stop with backdate := d }

theorem test_due_stop : let f := withEntry (stopEntry 7) (taking .first 96007 24 3072000 false false)
    let c := withEntry (stopEntry 0) { taking .capture 48000 12 Config.captureLimit false false with grid := GridUnit.reset }
    let o := withEntry (stopEntry 3) (overdubbing 7 [0])
    let d := withEntry (stopEntry 7) (overdubbing 7 [0])
    (OneDue ⟨false, false⟩ (stopEntry 7) f ∧ actionTest f 0 .stop false = none ∧ (stopEntry 7).chain = false ∧
      (f.track 0).redo = [] ∧ (heldTake .first 3072000 false false).mode = .first ∧
      f.head 0 = some (heldTake .first 3072000 false false)) ∧
      (OneDue ⟨false, false⟩ (stopEntry 0) c ∧ actionTest c 0 .stop false = none ∧ (c.track 0).redo = [] ∧
        c.head 0 = some (heldTake .capture Config.captureLimit false false)) ∧
      (OneDue ⟨false, false⟩ (stopEntry 3) o ∧ actionTest o 0 .stop false = none ∧ (o.track 0).redo = [] ∧
        o.head 0 = some heldPass ∧ (stopEntry 3).backdate < (o.layer 1).spanLen) ∧
      (OneDue ⟨false, false⟩ (stopEntry 7) d ∧ (d.layer 1).spanLen ≤ (stopEntry 7).backdate ∧ (d.layer 1).track = some 0 ∧
        d.fold.job = none) := by decide +kernel

theorem test_due_record : let s := withEntry (due .record) gridded
    let o := withEntry { due .overdub with backdate := 5 } playing
    (OneDue ⟨false, false⟩ (due .record) s ∧ actionTest s 0 .record false = none ∧ freeHead s = some 0 ∧ freeSlot s = some 0 ∧
      2 ≤ s.pool.free.length ∧ streamCount s + 1 ≤ s.budget.limit) ∧
      (OneDue ⟨true, false⟩ { due .overdub with backdate := 5 } o ∧ actionTest o 0 .overdub false = none ∧ freeHead o = some 0 ∧
        freeSlot o = some 1 ∧ ((o.track 0).tlf + 4095) / 4096 ≤ o.pool.free.length ∧ streamCount o + 1 ≤ o.budget.limit) := by
  decide +kernel

/-- Both heads held, by takes of tracks 6 and 7. -/
def headsHeld (s : State) : State :=
  (s.setHead 0 (some { heldPass with track := 6, layer := 60 })).setHead 1 (some { heldPass with track := 7, layer := 61, newer := false })

theorem test_due_back_off : let e : Entry := { due .record with retries := 3, quantize := .bar }
    let s := withEntry (due .record) (headsHeld gridded)
    OneDue ⟨false, false⟩ (due .record) s ∧ actionTest s 0 .record false = none ∧ freeHead s = none ∧ (due .record).retries < 3 ∧
      OneDue ⟨false, false⟩ e (withEntry e (headsHeld gridded)) ∧ 3 ≤ e.retries ∧
      OneDue ⟨false, false⟩ { e with retries := 1 } (withEntry { e with retries := 1 } (headsHeld gridded)) := by decide +kernel

theorem test_due_needs : let e := due .record
    let s := withEntry e { gridded with layers := Vector.replicate 64 barLayer }
    let m := withEntry e { gridded with pool := { Pool.reset with free := [1] } }
    let b := withEntry e { gridded with budget := { gridded.budget with limit := 0 } }
    (OneDue ⟨false, false⟩ e s ∧ actionTest s 0 .record false = none ∧ freeHead s = some 0 ∧ freeSlot s = none) ∧
      (OneDue ⟨false, false⟩ e m ∧ actionTest m 0 .record false = none ∧ freeSlot m = some 0 ∧ m.pool.free.length < 2) ∧
      (OneDue ⟨false, false⟩ e b ∧ actionTest b 0 .record false = none ∧ 2 ≤ b.pool.free.length ∧ (admitOne b).isNone = true) := by
  decide +kernel

/-- R119's example, the last row but one: with the UNMUTE taken first, the frame that begins at k + 100 has the value that the
new fade starts from. -/
theorem test_fresh_fade : let m := Mixer.reset
    advanceFade m 40192 (fadeFrom true 40192 65536) = (40192, fadeFrom false 40192 65536) ∧
      (advanceFade m 40192 (fadeFrom false 40192 65536)).1 = 40291 := by decide +kernel

theorem test_forced_close : let s := recording false 98304
    let u := recording true 3072000
    s.head 0 = some (heldTake .first 98304 false false) ∧ limitReached s 0 = true ∧ (s.track 0).redo = [] ∧
      shortReached u 0 = true ∧ 1 ≤ (u.track 0).pos / barFrames u ∧ s.head 1 = none ∧ u.head 1 = none := by decide +kernel

/-- A capture at its limit; `grid`: under a SET grid of bars of 96,000 frames. -/
def capturing (pos blocks : Nat) (grid : Bool) (free : List Nat) : State :=
  let s := taking .capture pos blocks pos false false
  { s with grid := if grid then s.grid else GridUnit.reset, pool := { s.pool with free := free } }

theorem test_capture : let s := capturing 96000 24 false [24]
    let n := capturing 49151 12 false []
    let f := capturing 2000 1 false [24]
    (limitReached s 0 = true ∧ s.head 0 = some (heldTake .capture 96000 false false) ∧ s.head 1 = none ∧
      (s.track 0).take = some 0 ∧ (s.track 0).redo = [] ∧ (s.layer 0).track = some 0 ∧ s.fold.job = none ∧
      s.grid.tempo = none ∧ captureCb s.grid.capb 96000 s.grid.pref s.grid.capBpb = 1 ∧ (96000 + 4 / 2) / 4 = 24000 ∧
      (96000 + 4095) / 4096 ≤ (s.layer 0).extents.length + s.pool.free.length) ∧
      (limitReached n 0 = true ∧ captureCb n.grid.capb 49151 n.grid.pref n.grid.capBpb = 1 ∧ (49151 + 4 / 2) / 4 = 12288 ∧
        12000 ≤ 49151 / 4 ∧ (49152 + 4095) / 4096 ≤ (n.layer 0).extents.length) ∧
      (limitReached f 0 = true ∧ ¬12000 ≤ (2000 + 4 / 2) / 4) := by decide +kernel

theorem test_capture_short : let s := capturing 49155 12 false []
    limitReached s 0 = true ∧ captureCb s.grid.capb 49155 s.grid.pref s.grid.capBpb = 1 ∧ (49155 + 4 / 2) / 4 = 12289 ∧
      ¬(4 * 12289 + 4095) / 4096 ≤ (s.layer 0).extents.length + s.pool.free.length ∧ 12000 ≤ 49155 / 4 := by decide +kernel

theorem test_fit : let s := capturing 100000 25 true []
    let r := capturing 150000 37 true []
    let f := capturing 40000 10 true []
    s.grid.tempo = some ⟨24000, 4, 4, 0, 0, 0⟩ ∧ limitReached s 0 = true ∧ min ((100000 + 96000 / 2) / 96000) 32 = 1 ∧
      (96000 + 4095) / 4096 ≤ (s.layer 0).extents.length ∧ limitReached r 0 = true ∧
      min ((150000 + 96000 / 2) / 96000) 32 = 2 ∧ ¬(192000 + 4095) / 4096 ≤ (r.layer 0).extents.length + r.pool.free.length ∧
      150000 / 96000 = 1 ∧ limitReached f 0 = true ∧ min ((40000 + 96000 / 2) / 96000) 32 = 0 := by decide +kernel

theorem test_pass_ends : passReached (passing [0]) 0 = true ∧ (passing [0]).head 0 = some heldPass := by decide +kernel

theorem test_pass_reopens : (match passNeeds 0 (pushTake 0 1 (passing [0])) with
    | .ok _ => true
    | .error _ => false) = true := by decide +kernel

theorem test_pass_stops : (match passNeeds 0 (pushTake 0 1 (passing [2, 3, 4, 5, 6, 7, 8, 9, 10, 11, 0])) with
    | .ok _ => false
    | .error r => r == .stackFull) = true := by decide +kernel

theorem test_fade_ends : let f : Fade := ⟨65536, 0, 256, true, false⟩
    let s := (playing.setTrack 0 { playing.track 0 with fade := some f }).setLayer 0 { barLayer with fade := some f }
    s.mixer.fadesDue = false ∧ f.reached = true ∧ (s.track 0).fade = some f ∧ (s.layer 0).fade = some f := by decide +kernel

theorem test_fold_completes : let s := folding false true true 95990
    let u := folding false true false 95984
    (s.fold.advanceDue = true ∧ s.fold.job = some ⟨0, 0, 1, 3, 95990⟩ ∧ (s.track 0).tlf ≤ 95990 + 16 ∧
      (s.layer 3).state = .building ∧ (3 : LayerId) ∉ (s.track 0).stack ∧ ((s.layer 0).shed && (s.layer 1).shed) = true) ∧
      (u.fold.advanceDue = true ∧ u.fold.job = some ⟨0, 0, 1, 3, 95984⟩ ∧ (u.track 0).tlf ≤ 95984 + 16 ∧
        ((u.layer 0).shed && (u.layer 1).shed) = false) ∧
      foldShedList 0 1 3 s.budget.shedList = [5, 3] := by decide +kernel

theorem test_reading : let s := { ready with budget := { Budget.reset with readingDue := true } }
    s.budget.readingDue = true ∧ s.budget.bandsDue = false ∧ s.budget.table.tc < s.budget.table.tb ∧
      s.budget.table.tb < s.budget.table.ta := by decide +kernel

theorem test_reading_and_bands : let s := { ready with budget := { Budget.reset with readingDue := true, bandsDue := true } }
    s.budget.bandsDue = true ∧ s.budget.readingDue = true ∧
      (supplyEvents true s).budget.band = (supplyEvents false s).budget.band := by decide +kernel

/-- What an escalation may meet: layers to shed, a fold to pause, a recording to close. -/
theorem test_escalation : let s := tight 1 (stacked false false)
    let f := tight 1 (folding false true false 0)
    let r := tight 1 (twoTakes)
    (TracksOk s ∧ HeadsOk s ∧ FoldOk s ∧ 1 ≤ s.budget.limit ∧ s.budget.limit < streamCount s ∧
      streamCount s - s.budget.limit ≤ (shedOrder s).length ∧ shedOrder s = [0, 1, 2]) ∧
      (TracksOk f ∧ HeadsOk f ∧ FoldOk f ∧ (shedOrder f).length < streamCount f - f.budget.limit ∧
        streamCount f - f.budget.limit ≤ (shedOrder f).length + foldStreams f) ∧
      (TracksOk r ∧ HeadsOk r ∧ FoldOk r ∧ r.budget.limit < streamCount r ∧
        (shedOrder r).length + foldStreams r < streamCount r - r.budget.limit ∧ newestHead r = some 1) := by
  unfold TracksOk HeadsOk FoldOk
  decide +kernel

theorem test_shed : let s := stacked false false
    let f := { s with budget := { s.budget with reserve := [40, 41, 42, 43, 44, 45, 46, 47] } }
    ((s.layer 0).env ≠ 0 ∧ (s.layer 0).track = some 0 ∧ (s.track 0).env ≠ 0 ∧ s.budget.reserve.length < 8) ∧
      ((f.layer 0).env ≠ 0 ∧ (0 : LayerId) ∉ f.budget.reserve ∧ 8 ≤ f.budget.reserve.length) ∧
      (prepared.layer 0).env = 0 := by decide +kernel

theorem test_budget_close : let o := overdubbing 7 [0]
    let z := overdubbing 0 [0]
    let f := taking .first 96007 24 3072000 false false
    let g := taking .first 100 2 3072000 false false
    (heldPass.mode = .overdub ∧ (o.layer 1).spanLen ≠ 0 ∧ (o.track 0).redo = [] ∧ (o.track 0).takeStation = some 0) ∧
      ((z.layer 1).spanLen = 0 ∧ (z.layer 1).track = some 0 ∧ z.fold.job = none ∧ z.head 0 = some heldPass ∧
        (z.track 0).take = some 1 ∧ z.head 1 = none) ∧
      (1 ≤ (f.track 0).pos / barFrames f ∧ (f.track 0).redo = []) ∧
      ((g.track 0).pos / barFrames g = 0 ∧ (g.layer 0).track = some 0 ∧ g.fold.job = none) ∧
      (taking .capture 100 2 3072000 false false).head 0 = some (heldTake .capture 3072000 false false) := by decide +kernel

theorem test_admission : (admitOne playing).isSome = true ∧
    (admitOne { playing with budget := { playing.budget with limit := 1 } }).isSome = true := by decide +kernel

theorem test_clip : let s := { playing with budget := { playing.budget with ceiling := 1 } }
    let u := { s.setLayer 0 { barLayer with extents := [⟨0, false⟩] } with dram := writeWord dramDefault [] 0 0x00400000#32 }
    (mixFrame u).mixer.mainClips = 1 ∧ (mixFrame u).mixer.pair = ⟨1, 0⟩ ∧ (mixFrame u).mixer.cueClips = 0 := by decide +kernel

theorem test_fade_steps : let f : Fade := ⟨65536, 0, 3, false, false⟩
    f.fresh = false ∧ f.t + 1 < 16 * Mixer.reset.segLen ∧ 16 * Mixer.reset.segLen ≤ 255 + 1 ∧
      ({ f with fresh := true }).fresh = true := by decide

theorem test_pins : gridPin gridded = true ∧ gridPin ready = false ∧
    atnLow { ready with attention := { Attention.reset with events := Vector.replicate 4 1#14, masks := Vector.replicate 4 1#14 } } 0 = true ∧
    aoutSlots { ready with mixer := { ready.mixer with lane := ⟨1, -1⟩ } } 2 = (0x00000100#32, 0xFFFFFF00#32) ∧
    aoutSlots State.inPowerReset 0 = (0#32, 0#32) := by decide +kernel

theorem test_ranges_of_ramp : 0 < barLayer.length ∧ barLayer.spanStart < barLayer.length ∧ barLayer.spanLen ≤ barLayer.length := by
  decide

/-! ### Witnesses: folds abandoned, chains, pre-roll, several due entries -/

/-- With no fold running no layer is in one. -/
theorem noFold_of_none {s : State} (h : s.fold.job = none) (l : LayerId) : NoFold l s := fun j e => by rw [h] at e; cases e

/-- Track 0 with redo layer 4, of its own. -/
def redoing (s : State) : State :=
  (s.modTrack 0 fun x => { x with redo := [4] }).setLayer 4 { barLayer with state := .redo, env := 0, extents := [] }

theorem test_redo_own : RedoOwn 0 1 (redoing (overdubbing 7 [0])) ∧ ((redoing (overdubbing 7 [0])).track 0).redo = [4] := by
  refine ⟨fun m h => ?_, by decide +kernel⟩
  have e : ((redoing (overdubbing 7 [0])).track 0).redo = [4] := by decide +kernel
  rw [e] at h
  obtain rfl := List.mem_singleton.mp h
  exact ⟨by decide +kernel, by decide +kernel, by decide +kernel, by decide, noFold_of_none (by decide +kernel) 4⟩

theorem test_due_stop_purges : let s := withEntry (stopEntry 3) (redoing (overdubbing 7 [0]))
    OneDue ⟨false, false⟩ (stopEntry 3) s ∧ actionTest s 0 .stop false = none ∧ s.head 0 = some heldPass ∧ s.head 1 = none ∧
      (s.track 0).take = some 1 ∧ (stopEntry 3).backdate < (s.layer 1).spanLen := by decide +kernel

theorem test_due_abandons : let u := withEntry (due .undo) ((folding false false false 16).modTrack 0 fun x => { x with stack := [0, 1] })
    let c := withEntry (due .clear) (folding false false false 16)
    (OneDue ⟨false, true⟩ (due .undo) u ∧ actionTest u 0 .undo false = none ∧ (u.track 0).state = .playing ∧
      (u.track 0).stack = [0] ++ [1] ∧ (u.track 0).redo.length < 4 ∧ u.fold.job = some ⟨0, 0, 1, 3, 16⟩ ∧
      (u.layer 1).folding = true ∧ (3 : LayerId) ∉ (u.track 0).stack ∧ (3 : LayerId) ∉ (u.track 0).redo) ∧
      (OneDue ⟨false, true⟩ (due .clear) c ∧ actionTest c 0 .clear false = none ∧ c.fold.job = some ⟨0, 0, 1, 3, 16⟩ ∧
        (c.layer 3).track = some 0 ∧
        (let ls := (c.track 0).take.toList ++ (c.track 0).stack ++ (c.track 0).redo ++ (c.track 0).prepared.toList
        (3 : LayerId) ∉ ls ∧ ∀ m ∈ ls, (c.layer m).track = some 0)) := by decide +kernel

/-- A STOP with the chain flag. -/
def chainEntry : Entry := { stopEntry 3 with chain := true }

theorem test_due_chain : let n := overdubbing 7 [0]
    let s := withEntry chainEntry n
    let v := raiseAll .fired (stopTake heldPass 3 n)
    OneDue ⟨false, false⟩ chainEntry s ∧ actionTest s 0 .stop false = none ∧ s.head 0 = some heldPass ∧ s.head 1 = none ∧
      (v.track 0).state = .playing ∧ (v.track 0).guards.noRecord = false ∧ (v.track 0).stack.length < 12 ∧
      v.budget.band ≠ .reserve ∧ freeHead v = some 0 ∧ freeSlot v = some 2 ∧
      ((v.track 0).tlf + 4095) / 4096 ≤ v.pool.free.length ∧ streamCount v + 1 ≤ v.budget.limit := by decide +kernel

theorem test_due_chain_told : let n := overdubbing 7 [0]
    let g := n.modTrack 0 fun x => { x with guards := { x.guards with noRecord := true } }
    let f := overdubbing 7 [2, 3, 4, 5, 6, 7, 8, 9, 10, 11, 0]
    let b := { n with budget := { n.budget with band := .reserve } }
    let c := { taking .capture 2000 1 Config.captureLimit false false with grid := GridUnit.reset }
    (OneDue ⟨false, false⟩ chainEntry (withEntry chainEntry g) ∧ actionTest g 0 .stop false = none ∧
      ((stopTake heldPass 3 g).track 0).state = .playing ∧ ((stopTake heldPass 3 g).track 0).guards.noRecord = true) ∧
      (OneDue ⟨false, false⟩ chainEntry (withEntry chainEntry f) ∧ actionTest f 0 .stop false = none ∧
        12 ≤ ((stopTake heldPass 3 f).track 0).stack.length) ∧
      (OneDue ⟨false, false⟩ chainEntry (withEntry chainEntry b) ∧ actionTest b 0 .stop false = none ∧
        (stopTake heldPass 3 b).budget.band = .reserve) ∧
      (OneDue ⟨false, false⟩ chainEntry (withEntry chainEntry c) ∧ actionTest c 0 .stop false = none ∧
        ((stopTake (heldTake .capture Config.captureLimit false false) 3 c).track 0).state ≠ .playing) := by decide +kernel

/-- Track 0 PLAYING, with layer 0's block out of the free list. -/
def playingBlocks : State := { playing with pool := { Pool.reset with free := List.range' 1 8191 } }

theorem test_pre_roll : MemoriesWf (withEntry { due .record with backdate := 5 } gridded) ∧
    MemoriesWf (withEntry { due .overdub with backdate := 5 } playingBlocks) ∧
    OneDue ⟨false, false⟩ { due .overdub with backdate := 5 } (withEntry { due .overdub with backdate := 5 } playingBlocks) ∧
    actionTest playingBlocks 0 .overdub false = none ∧ freeSlot playingBlocks = some 1 ∧
    ((gridded.rings.get 0).take 5).length = 5 ∧ (playingBlocks.track 0).tlf = 96000 := by decide +kernel

theorem test_pre_roll_blocks : BlocksOk (withEntry { due .record with backdate := 5 } gridded) ∧
    BlocksOk (withEntry { due .overdub with backdate := 5 } playingBlocks) :=
  ⟨blocks_fresh _ pool_fresh (by decide +kernel) (by decide +kernel) (by decide +kernel),
    blocks_split _ 1 (by decide) rfl (by decide +kernel) (by decide +kernel) (by decide +kernel)
      (fun x h => by
        have e : (withEntry { due .overdub with backdate := 5 } playingBlocks).head 0 = none := by decide +kernel
        rw [e] at h
        cases h)⟩

/-- Two take starts and a MUTE due at one boundary. -/
def severalDue : State :=
  { playing with queue := [{ due .record with track := 1 }, due .mute, { due .record with track := 2, station := 3 }] }

theorem test_several_due : entryDue severalDue = true ∧ actionTest severalDue 1 .record false = none ∧
    actionTest severalDue 0 .mute false = none ∧ actionTest severalDue 0 .unmute false ≠ none ∧
    (∀ st, severalDue.arbiter.priorities.get st ≤ 3) ∧ (fireDue 3 false [] severalDue).2.length = 2 ∧
    ((match exec (.entryFire ⟨false, false⟩) severalDue with
      | .next t => (t.head 0).isSome && (t.head 1).isSome && (t.track 0).state == .muted
      | _ => false) = true) := by decide +kernel

/-- A take-start candidate of station 0 for track 0. -/
def candidate (a : Action) (e : Option Entry) : Candidate := ⟨0, 0, 0, 0, a, 0, e⟩

theorem test_candidates : freeHead (headsHeld gridded) = none ∧ (candidate .stop none).entry = none ∧
    (candidate .record (some (due .record))).entry = some (due .record) ∧ freeHead gridded = some 0 ∧ freeSlot gridded = some 0 ∧
    2 ≤ gridded.pool.free.length ∧ (admitOne gridded).isSome = true ∧
    freeSlot { gridded with layers := Vector.replicate 64 barLayer } = none ∧
    (admitOne { gridded with budget := { gridded.budget with limit := 0 } }).isNone = true := by decide +kernel

/-! ### Witnesses: short closes and pass needs -/

theorem test_short_closes : let s := taking .first 4096 1 3072000 true false
    let c := { taking .capture 49152 12 Config.captureLimit true false with grid := GridUnit.reset }
    (s.head 0 = some (heldTake .first 3072000 true false) ∧ s.head 1 = none ∧ (s.track 0).take = some 0 ∧
      shortReached s 0 = true ∧ (s.track 0).pos / barFrames s = 0 ∧ (s.layer 0).track = some 0 ∧ s.fold.job = none ∧
      (s.track 0).takeStation = some 0) ∧
      (c.head 0 = some (heldTake .capture Config.captureLimit true false) ∧ c.head 1 = none ∧ (c.track 0).take = some 0 ∧
        shortReached c 0 = true ∧ (c.track 0).redo = [] ∧ (c.layer 0).track = some 0 ∧ c.fold.job = none ∧
        c.grid.tempo = none) := by decide +kernel

theorem test_pass_needs : let p := pushTake 0 1 (passing [0])
    12 ≤ ((pushTake 0 1 (passing [2, 3, 4, 5, 6, 7, 8, 9, 10, 11, 0])).track 0).stack.length ∧ (p.track 0).stack.length < 12 ∧
      freeSlot p = some 2 ∧ ((p.track 0).tlf + 4095) / 4096 ≤ p.pool.free.length ∧ (admitOne p).isSome = true ∧
      freeSlot { p with layers := Vector.replicate 64 barLayer } = none ∧
      ({ p with pool := { p.pool with free := [] } }).pool.free.length < ((p.track 0).tlf + 4095) / 4096 ∧
      (admitOne { p with budget := { p.budget with limit := 0 } }).isNone = true := by decide +kernel

/-! ### Witnesses: RESTART alone, resume, header checks -/

theorem test_restart_alone : Taken (.restart 0) 0 ready ∧
    ∀ x, x ≠ 0 → ∀ i, (ready.port x).executor ≠ .holding i :=
  ⟨by decide +kernel, fun x _ i h => by rw [ready_port] at h; cases h⟩

theorem test_resume : let s := tight 6 (folding true false false 16)
    s.fold.job ≠ none ∧ s.budget.foldPaused = true ∧ s.budget.band = .full ∧ streamCount s + 3 ≤ s.budget.limit ∧
      ready.fold.job = none := by decide +kernel

/-- An image of `bars` bars of one beat of 12,000 frames at a sector. -/
def barImage (sector bars : Nat) : State :=
  let w (n : Nat) : Word := BitVec.ofNat 32 n
  programWords sector ([(0, Config.imageMark), (1, w (12000 * bars)), (2, w bars), (3, 1#32), (4, 12000#32), (5, 65536#32),
    (6, 0#32), (7, 0#32)] ++ [(8, 12000#32), (9, 0#32), (10, 0#32), (11, 0#32), (12, 0#32), (13, 0#32), (14, 0#32), (15, 0#32)])
    ready

theorem test_good_header (k b : Nat) (h : (k, b) ∈ [(0, 1), (0, 17), (1022, 2)]) :
    let s := barImage k b
    let w (i : Nat) : Nat := (flashWord s k i).toNat
    flashWord s k 0 = 0x38344C44#32 ∧ [11, 12, 13, 14, 15].map w = [0, 0, 0, 0, 0] ∧ w 1 = w 2 * w 3 * w 4 ∧ w 2 = b ∧ w 3 = 1 ∧
      w 4 = 12000 ∧ w 5 = 65536 ∧ w 6 = 0 ∧ w 7 = 0 ∧ w 8 ≤ w 1 ∧ w 9 = 0 ∧ s.grid.tempo = none ∧ freeSlot s = some 0 ∧
      (w 1 + 4095) / 4096 ≤ s.pool.free.length := by
  simp only [List.mem_cons, List.not_mem_nil, or_false, Prod.mk.injEq] at h
  rcases h with h | h | h <;> obtain ⟨rfl, rfl⟩ := h <;> decide +kernel

/-- How a header check ends. -/
def loadEnds (s : State) (first : Nat) : Option StoreResult :=
  match loadCheck s first 0 with
  | .error r => some r
  | .ok _ => none

theorem test_load_checks : loadEnds ready 0 = some .badHeader ∧ loadEnds (barImage 1022 2) 1022 = some .range ∧
    loadEnds { barImage 0 1 with grid := gridded.grid } 0 = some .gridMismatch ∧ loadEnds (barImage 0 17) 0 = some .range ∧
    loadEnds { barImage 0 1 with layers := Vector.replicate 64 barLayer } 0 = some .noLayer ∧
    loadEnds { barImage 0 1 with pool := { Pool.reset with free := [1] } } 0 = some .noMemory ∧
    loadEnds (barImage 0 1) 0 = none := by decide +kernel

/-! ### Witnesses: stopping points and words that do not take -/

/-- An operation with the abort mark, or found by a RESTART. -/
def stopping (abort restarted : Bool) (j : StoreJob) (s : State) : State :=
  { s with store := { s.store with engine := if restarted then .starting else .busy, running := some ⟨j, 0, 0, abort, restarted⟩ } }

theorem test_stopping_erase : (stopping true false (.erase 3 2) ready).store.running = some ⟨.erase 3 2, 0, 0, true, false⟩ ∧
    (stopping false true (.erase 3 2) ready).store.running = some ⟨.erase 3 2, 0, 0, false, true⟩ ∧
    MemoriesWf (stopping false true (.erase 3 2) ready) ∧ Settled (stopping false true (.erase 3 2) ready) := by decide +kernel

theorem test_stopping_save (a r : Bool) (ph : SavePhase) (bad : List Nat) (held : List Word)
    (h : (ph, bad, held) ∈ [(SavePhase.pages 0, [], []), (.pages 0, [], [1#32]), (.finish, [], []), (.readBack 0, [20, 30], []),
      (.readBack 1500, [], [])]) :
    Settled (stopping a r (.save 0 0 [] 96016 0#32 ph bad held) open_) ∧
      (stopping a r (.save 0 0 [] 96016 0#32 ph bad held) open_).store.running =
        some ⟨.save 0 0 [] 96016 0#32 ph bad held, 0, 0, a, r⟩ := by
  simp only [List.mem_cons, List.not_mem_nil, or_false, Prod.mk.injEq] at h
  rcases h with h | h | h | h | h <;> obtain ⟨rfl, rfl, rfl⟩ := h <;> cases a <;> cases r <;> decide +kernel

theorem test_read_back_places : (20 ∈ [20, 30]) ∧ 64 * 0 ≤ 20 ∧ 20 < 64 * (0 + 1) ∧ 20 < 96016 ∧ (∀ j ∈ [20, 30], 20 ≤ j) ∧
    gridded.grid.tempo ≠ none := by decide

theorem test_rewrite_faults : let p := stopping false true .protect ready
    MemoriesWf p ∧ Settled p ∧ p.store.running = some ⟨.protect, 0, 0, false, true⟩ ∧ p.store.option.floor ≤ 1023 ∧
      p.store.option.list = [] ∧ (9#32 : Word) ≠ (optionRecord p.store.option).getD 4 0#32 ∧
      ([(4, 9#32)] : PageFaults).find? (fun x => x.1 == 4) = some (4, 9#32) := by decide +kernel

/-! ### Witnesses: the mix -/

theorem test_mix_set : TracksOk playing ∧ playing.budget.reserve.Nodup ∧ mixSet playing = [0] := by
  unfold TracksOk
  decide +kernel

/-- R108: with c = 32,768 a word of 3 contributes 2 and a word of −3 contributes −1. -/
theorem test_contribution : let s := playing.setLayer 0 { barLayer with gain := 32768 }
    let u (w : Word) := { s with dram := writeWord dramDefault [] 0 w }
    (s.layer 0).track = some 0 ∧ contribution (u 3#32) 0 = 2 ∧ contribution (u 0xFFFFFFFD#32) 0 = -1 ∧
      contribution (s.setLayer 0 { barLayer with spanLen := 0 }) 0 = 0 ∧ contribution ready 0 = 0 := by decide +kernel

/-- R116 by its formula (log 52): with a last slope of 0 the curve is at its end before FL. -/
theorem test_curve_level_end :
    curve { Mixer.reset with slopes := #v[1, 1, 1, 1, 1, 1, 1, 1, 1, 1, 1, 1, 1, 1, 1, 0] } 240 = 65536 := by decide +kernel

/-- R116, the worked figures: t = 40. -/
theorem test_curve_shaped : let m : Mixer := { Mixer.reset with slopes := #v[15, 15, 15, 15, 8, 8, 8, 8, 4, 4, 4, 4, 1, 1, 1, 1] }
    curve m 40 = 21942 ∧ 40 < 16 * m.segLen := by decide +kernel

end Sys2Proof.Tests
end

/-! SUPPORT. Chapter 3: what SET LAYER, ROTATE and CREATE LAYER do of a request that their port takes, and the edge ramp
of a partial layer; with them the three statements of this chapter. -/

namespace Sys2Proof.Proofs.Layers

open Sys2Proof Sys2Proof.Machine

/-! ### Geometry (R55, R56) -/

/-- (a − b) mod n over the naturals, for a start within the length. -/
theorem subMod_eq (a b n : Nat) (h : b ≤ n) : subMod a b n = (a + n - b) % n := by
  have e : ((a + n - b : Nat) : Int) = (a : Int) - b + n := by omega
  have m : ((a : Int) - b) % n = ((a + n - b) % n : Nat) := by
    rw [Int.natCast_emod, e, Int.add_emod_right]
  rw [subMod, m, Int.toNat_natCast]

theorem edgeRamp_full (x : Layer) (i : Nat) (h : x.spanLen = x.length) : edgeRamp x i = 65536 := if_pos h

theorem edgeRamp_partial (x : Layer) (i : Nat) (h : x.spanLen ≠ x.length) :
    edgeRamp x i = min (spanDistance x i + 1) (min (x.spanLen - spanDistance x i) 64) * 1024 := if_neg h

/-- Settles O59: the model's signed distance into the span is the natural one, as the span starts within the length. -/
theorem edgeRampFollowsSpan : Obligations.EdgeRampFollowsSpan := by
  intro x i _ _ hsp _
  have hu : spanDistance x i = (i + x.length - x.spanStart) % x.length := subMod_eq _ _ _ (Nat.le_of_lt hsp)
  refine ⟨edgeRamp_full x i, fun hlt _ => ?_⟩
  rw [edgeRamp_partial x i (Nat.ne_of_lt hlt), hu]

/-- A layer of 96,000 words whose span of 20,000 wraps past the end of the stored words. -/
def wrapping : Layer := { Layer.free with length := 96000, spanStart := 90000, spanLen := 20000 }

/-- The hypotheses of the partial clause are met, at the last word of the span (R56: 1,024 there). -/
theorem edgeRamp_wrapping_last : edgeRamp wrapping 13999 = 1024 :=
  (edgeRampFollowsSpan wrapping 13999 (by decide) (by decide) (by decide) (by decide)).2 (by decide) (by decide)

/-! ### The fold's restart (R150) -/

theorem restartFold_eq (s : State) :
    restartFold s = { s with fold := { s.fold with job := s.fold.job.map fun j => { j with next := 0 } } } := by
  simp only [restartFold]
  split
  · next h => rw [h, Option.map_none, ← h]
  · next j h => rw [h, Option.map_some]

/-- What a restart leaves of what is due. -/
theorem restartIfSource_dues (changed folding : Bool) (s : State) : (restartIfSource changed folding s).dues = s.dues := by
  simp only [restartIfSource, restartFold_eq]
  split <;> rfl

theorem restartIfSource_attemptDue (changed folding : Bool) (s : State) :
    (restartIfSource changed folding s).fold.attemptDue = s.fold.attemptDue := by
  simp only [restartIfSource, restartFold_eq]
  split <;> rfl

theorem restartIfSource_mixer (changed folding : Bool) (s : State) :
    (restartIfSource changed folding s).mixer = s.mixer := by
  simp only [restartIfSource, restartFold_eq]
  split <;> rfl

/-! ### Requests in a settled state -/

/-- A request that is refused forms its reply and changes nothing. -/
theorem request_refused {i : Instr} {st : Station} {s : State} {c : Code} {run : State → Reply × State} (hs : Settled s)
    (h : Taken i st s) (hr : run s = (plain c, s)) : request st i run s = holdReply st ⟨c, []⟩ s :=
  request_same run hs h hr rfl rfl rfl

/-- A request that replaces settings of one layer, and restarts the fold where they are a source's, leaves nothing due. -/
theorem request_layerSettings {i : Instr} {st : Station} {s : State} {run : State → Reply × State} {l : LayerId} {y : Layer}
    {changed folding : Bool} (hs : Settled s) (h : Taken i st s)
    (hr : run s = (plain .ok, restartIfSource changed folding (s.setLayer l y)))
    (h1 : y.extents = (s.layer l).extents) (h2 : y.spanLen = (s.layer l).spanLen) (h3 : y.length = (s.layer l).length)
    (h4 : y.fade = (s.layer l).fade) :
    request st i run s = holdReply st ⟨.ok, []⟩ (restartIfSource changed folding (s.setLayer l y)) := by
  refine request_same run hs h hr ?_ ?_ ?_
  · rw [restartIfSource_dues, setLayer_dues s l y (congrArg _ h1) h2 h3 h4]
  · rw [restartIfSource_attemptDue, setLayer_fold]
  · rw [restartIfSource_mixer, setLayer_mixer]

/-! ### SET LAYER (R67) -/

theorem exec_setLayer (st : Station) (n : Byte) (gain : BitVec 24) (pin : Byte) (s : State) :
    exec (.setLayer st n gain pin) s = .next (request st (.setLayer st n gain pin) (doSetLayer n gain pin) s) := rfl

/-- The gain range of the Introduction. -/
theorem clamp_gain (g : Nat) : clamp 0 Config.gainMax g = min g 131072 := by
  rw [clamp, if_neg g.not_lt_zero, Config.gainMax]
  split <;> omega

theorem doSetLayer_state (n : Byte) (gain : BitVec 24) (pin : Byte) (s : State)
    (h : (s.layer (layerOf n)).state = .free ∨ (s.layer (layerOf n)).state = .building) :
    doSetLayer n gain pin s = (plain .state, s) := by
  rcases h with h | h <;> simp only [doSetLayer, h]

theorem doSetLayer_guarded (n : Byte) (gain : BitVec 24) (pin : Byte) (s : State)
    (hf : (s.layer (layerOf n)).state ≠ .free) (hb : (s.layer (layerOf n)).state ≠ .building)
    (hg : layerNoEdit s (layerOf n) = true) : doSetLayer n gain pin s = (plain .guarded, s) := by
  cases e : (s.layer (layerOf n)).state
  case free => exact absurd e hf
  case building => exact absurd e hb
  all_goals simp only [doSetLayer, e, hg, if_true]

theorem doSetLayer_ok (n : Byte) (gain : BitVec 24) (pin : Byte) (s : State)
    (hf : (s.layer (layerOf n)).state ≠ .free) (hb : (s.layer (layerOf n)).state ≠ .building)
    (hg : layerNoEdit s (layerOf n) = false) :
    doSetLayer n gain pin s = (plain .ok,
      restartIfSource (decide (min gain.toNat 131072 ≠ (s.layer (layerOf n)).gain)) (s.layer (layerOf n)).folding
        (s.setLayer (layerOf n) { s.layer (layerOf n) with gain := min gain.toNat 131072, pinned := pin == 1#8 })) := by
  rw [← clamp_gain]
  cases e : (s.layer (layerOf n)).state
  case free => exact absurd e hf
  case building => exact absurd e hb
  all_goals simp [doSetLayer, e, hg, State.modLayer]

/-! ### ROTATE (R68) -/

theorem exec_rotate (st : Station) (n : Byte) (d : Word) (s : State) :
    exec (.rotate st n d) s = .next (request st (.rotate st n d) (doRotate n d) s) := rfl

theorem doRotate_state (n : Byte) (d : Word) (s : State)
    (h : (s.layer (layerOf n)).state = .free ∨ (s.layer (layerOf n)).state = .recording ∨
      (s.layer (layerOf n)).state = .building) : doRotate n d s = (plain .state, s) := by
  rcases h with h | h | h <;> simp only [doRotate, h]

theorem doRotate_guarded (n : Byte) (d : Word) (s : State)
    (h : (s.layer (layerOf n)).state = .preparing ∨ (s.layer (layerOf n)).state = .live ∨
      (s.layer (layerOf n)).state = .redo) (hg : layerNoEdit s (layerOf n) = true) :
    doRotate n d s = (plain .guarded, s) := by
  rcases h with h | h | h <;> simp only [doRotate, h, hg, if_true]

theorem doRotate_ok (n : Byte) (d : Word) (s : State)
    (h : (s.layer (layerOf n)).state = .preparing ∨ (s.layer (layerOf n)).state = .live ∨
      (s.layer (layerOf n)).state = .redo) (hg : layerNoEdit s (layerOf n) = false) :
    doRotate n d s = (plain .ok,
      restartIfSource (decide (rotated (s.layer (layerOf n)) d ≠ (s.layer (layerOf n)).offset)) (s.layer (layerOf n)).folding
        (s.setLayer (layerOf n) { s.layer (layerOf n) with offset := rotated (s.layer (layerOf n)) d })) := by
  rcases h with h | h | h <;> simp [doRotate, h, hg, State.modLayer]

/-- Settles O33: the case lemmas of the two requests, each carried through the port and the command's end. -/
theorem layerSettingsReplaced : Obligations.LayerSettingsReplaced := by
  intro st n s hs
  simp only [← restartFold_eq]
  refine ⟨fun gain pin ht => ?_, fun d ht => ?_⟩
  · simp only [exec_setLayer]
    refine ⟨fun h => ?_, fun hf hb hg => ?_, fun hf hb hg => ?_⟩
    · rw [request_refused hs ht (doSetLayer_state n gain pin s h)]
    · rw [request_refused hs ht (doSetLayer_guarded n gain pin s hf hb hg)]
    · rw [request_layerSettings hs ht (doSetLayer_ok n gain pin s hf hb hg) rfl rfl rfl rfl]
      rfl
  · simp only [exec_rotate]
    refine ⟨fun h => ?_, fun h hg => ?_, fun h hg => ?_⟩
    · rw [request_refused hs ht (doRotate_state n d s h)]
    · rw [request_refused hs ht (doRotate_guarded n d s h hg)]
    · rw [request_layerSettings hs ht (doRotate_ok n d s h hg) rfl rfl rfl rfl]
      rfl

/-- A part out of start-up, with a fold of L0 and L1 into L2 at index 160. -/
def foldingSources : State :=
  let source : Layer := { Layer.free with state := .live, track := some 0, length := 96000, spanLen := 96000, folding := true }
  let s := { State.reset with
    store := { Store.reset with engine := .idle, phase := .over }
    fold := { FoldUnit.reset with job := some ⟨0, 0, 1, 2, 160⟩ } }
  (s.setLayer 0 source).setLayer 1 source

/-- The hypotheses of the rotation of a folding source are met: it is taken, and the fold starts again (R150). -/
theorem rotate_restarts_fold : exec (.rotate 0 0#8 0xFFFFFFFF#32) foldingSources =
    .next (holdReply 0 ⟨.ok, []⟩ (let u := foldingSources.modLayer 0 fun x => { x with offset := 95999 }
      { u with fold := { u.fold with job := some ⟨0, 0, 1, 2, 0⟩ } })) :=
  ((layerSettingsReplaced 0 0#8 foldingSources (by decide +kernel)).2 0xFFFFFFFF#32 (by decide +kernel)).2.2
    (by decide +kernel) (by decide +kernel)

/-! ### CREATE LAYER (R69) -/

section CreateTests

variable {s : State} {t : TrackId} {bars : Byte}

theorem createTest_gridUnset (h : s.grid.tempo = none) : createTest s t bars = .error .gridUnset := by
  simp [createTest, h]

theorem createTest_guarded (hu : s.grid.tempo ≠ none) (h : (s.track t).guards.noEdit = true) :
    createTest s t bars = .error .guarded := by
  simp [createTest, hu, h]

theorem createTest_state (hu : s.grid.tempo ≠ none) (hg : (s.track t).guards.noEdit = false)
    (h : (s.track t).state = .firstRec ∨ (s.track t).prepared ≠ none) : createTest s t bars = .error .state := by
  rw [← Option.isSome_iff_ne_none] at h
  simp [createTest, hu, hg, h]

theorem createTest_param (hu : s.grid.tempo ≠ none) (hg : (s.track t).guards.noEdit = false)
    (hp : (s.track t).prepared = none) (h : (s.track t).state = .empty ∧ bars = 0#8) : createTest s t bars = .error .param := by
  simp [createTest, hu, hg, hp, h]

theorem createTest_noLayer (hu : s.grid.tempo ≠ none) (hg : (s.track t).guards.noEdit = false)
    (hf : (s.track t).state ≠ .firstRec) (hp : (s.track t).prepared = none)
    (hb : ¬((s.track t).state = .empty ∧ bars = 0#8)) (h : freeSlot s = none) :
    createTest s t bars = .error .noLayer := by
  simp [createTest, hu, hg, hf, hp, hb, h]

/-- The last test, for a request that passes all the others. -/
theorem createTest_memory (hu : s.grid.tempo ≠ none) (hg : (s.track t).guards.noEdit = false)
    (hf : (s.track t).state ≠ .firstRec) (hp : (s.track t).prepared = none)
    (hb : ¬((s.track t).state = .empty ∧ bars = 0#8)) {l : LayerId} (h : freeSlot s = some l) :
    createTest s t bars =
      if s.pool.free.length < blocksFor (createLength s t bars) then .error .noMemory else .ok l := by
  simp [createTest, hu, hg, hf, hp, hb, h]

end CreateTests

theorem exec_createLayer {st : Station} {n bars : Byte} {s u : State} {r : Reply} (ht : Taken (.createLayer st n bars) st s)
    (hr : doCreateLayer n bars s = (r, u)) : exec (.createLayer st n bars) s = .next (finish (holdReply st r u)) := by
  have e := request_of_taken (doCreateLayer n bars) ht
  rw [hr] at e
  exact congrArg Host.Outcome.next e

/-- A CREATE LAYER that its port takes and that fails a test changes nothing of its own. -/
theorem exec_createLayer_refused {st : Station} {n bars : Byte} {s : State} {c : Code}
    (ht : Taken (.createLayer st n bars) st s) (h : createTest s (trackOf n) bars = .error c) :
    exec (.createLayer st n bars) s = .next (finish (holdReply st ⟨c, []⟩ s)) :=
  exec_createLayer ht (by simp only [doCreateLayer, h, plain])

/-- A CREATE LAYER that passes its tests: the slot filled by the row of R51, its blocks, and the track's prepared field. -/
theorem exec_createLayer_taken {st : Station} {n bars : Byte} {s u : State} {l : LayerId}
    (ht : Taken (.createLayer st n bars) st s) (h : createTest s (trackOf n) bars = .ok l)
    (hu : allocate l (blocksFor (createLength s (trackOf n) bars))
      (s.setLayer l (createRecord (trackOf n) (createLength s (trackOf n) bars))) = some u) :
    exec (.createLayer st n bars) s = .next (finish (holdReply st ⟨.ok, [BitVec.ofNat 8 l.val]⟩
      (u.setTrack (trackOf n) { u.track (trackOf n) with prepared := some l }))) :=
  exec_createLayer ht (by simp only [doCreateLayer, h, hu, Option.getD_some, okWith, State.modTrack])

/-- R94: an allocation that is made found its blocks free. -/
theorem free_of_allocate {l : LayerId} {c : Nat} {s u : State} (h : allocate l c s = some u) : c ≤ s.pool.free.length := by
  simp only [allocate] at h
  split at h
  · next enough => exact enough
  · cases h

/-- Settles O34: each row of R69's table by its own lemma about the tests, and the taken request by the slot and blocks it
takes. -/
theorem createLayerTakesSlot : Obligations.CreateLayerTakesSlot := by
  intro st n bars s ht t x len refused
  have refuse {c : Code} (h : createTest s t bars = .error c) : refused c := exec_createLayer_refused ht h
  refine ⟨fun hu => refuse (createTest_gridUnset hu), fun hu hg => refuse (createTest_guarded hu hg),
    fun hu hg h => refuse (createTest_state hu hg h), fun hu hg hf hp => ⟨fun hb => refuse (createTest_param hu hg hp hb),
      fun hb => ⟨fun h => refuse (createTest_noLayer hu hg hf hp hb h), fun l hl => ?_⟩⟩⟩
  have test := createTest_memory hu hg hf hp hb hl
  refine ⟨fun few => refuse ?_, fun u hu => exec_createLayer_taken ht ?_ hu⟩
  · rw [test, if_pos few]
  · have enough : blocksFor len ≤ (s.setLayer l _).pool.free.length := free_of_allocate hu
    rw [test, if_neg (by simpa using enough)]

end Sys2Proof.Proofs.Layers

/-! SUPPORT. Chapters 4 and 10: what a POWER, BROWNOUT or PIN reset leaves of the state that it finds, with the statement
about it. -/

namespace Sys2Proof.Proofs.ColdReset

open Sys2Proof Sys2Proof.Machine

/-! ### The operation that the reset cuts (R176) -/

/-- A cut writes the flash and the mark of a broken option record, nothing else: each kind of operation either leaves what
was under its head or does not write at all. -/
theorem cutOperation_eq (left : FlashLeft) (s : State) : ∃ flash broken, cutOperation left s =
    { s with flash := flash, store := { s.store with optionBroken := broken } } := by
  simp only [cutOperation]
  split
  case h_1 => exact ⟨_, _, rfl⟩
  case h_2 op _ =>
    split
    case isTrue => exact ⟨_, _, rfl⟩
    case isFalse =>
      split
      case h_3 => split <;> exact ⟨_, _, rfl⟩
      all_goals exact ⟨_, _, rfl⟩

theorem cutOperation_idle (left : FlashLeft) {s : State} (h : s.store.running = none) : cutOperation left s = s := by
  simp only [cutOperation, h]

section
variable (left : FlashLeft) (s : State)

@[simp] theorem cutOperation_dram : (cutOperation left s).dram = s.dram := by
  obtain ⟨_, _, e⟩ := cutOperation_eq left s
  rw [e]

@[simp] theorem cutOperation_budget : (cutOperation left s).budget = s.budget := by
  obtain ⟨_, _, e⟩ := cutOperation_eq left s
  rw [e]

@[simp] theorem cutOperation_ports : (cutOperation left s).ports = s.ports := by
  obtain ⟨_, _, e⟩ := cutOperation_eq left s
  rw [e]

@[simp] theorem cutOperation_pending : (cutOperation left s).pending = s.pending := by
  obtain ⟨_, _, e⟩ := cutOperation_eq left s
  rw [e]

end

/-! ### The part after the reset, block by block -/

section
variable {cause : ResetCause} {pin detector : Bool} {straps : Vector Strap 4} {left : FlashLeft} {s : State}

@[simp] theorem coldReset_track (x : TrackId) : (coldReset cause pin detector straps left s).track x = Track.reset :=
  Vector.getElem_replicate x.isLt

@[simp] theorem coldReset_layer (l : LayerId) : (coldReset cause pin detector straps left s).layer l = Layer.free :=
  Vector.getElem_replicate l.isLt

@[simp] theorem coldReset_head (h : HeadId) : (coldReset cause pin detector straps left s).head h = none :=
  Vector.getElem_replicate h.isLt

@[simp] theorem coldReset_window (st : Station) :
    (coldReset cause pin detector straps left s).window st = Window.reset :=
  Vector.getElem_replicate st.isLt

@[simp] theorem coldReset_ring (x : Fin 8) :
    (coldReset cause pin detector straps left s).rings.get x = List.replicate Config.ringFrames 0#32 :=
  Vector.getElem_replicate x.isLt

/-- R73: the straps as the reset samples them. -/
@[simp] theorem coldReset_priority (st : Station) :
    (coldReset cause pin detector straps left s).arbiter.priorities.get st = strapPriority (straps.get st) :=
  get_map ..

/-- R190: only the level of CS_N, which the outside holds, stays. -/
@[simp] theorem coldReset_port (st : Station) :
    (coldReset cause pin detector straps left s).port st = resetPort (s.port st) := by
  have sampled : (coldReset cause pin detector straps left s).port st = resetPort ((cutOperation left s).ports.get st) :=
    get_map ..
  rw [sampled, cutOperation_ports, State.port]

/-- R93: no reset touches loop DRAM. -/
@[simp] theorem coldReset_dram : (coldReset cause pin detector straps left s).dram = s.dram := cutOperation_dram left s

@[simp] theorem coldReset_pending : (coldReset cause pin detector straps left s).pending = s.pending :=
  cutOperation_pending left s

/-- §7.1: only the level of SENSE, which the outside holds, stays. -/
@[simp] theorem coldReset_budget :
    (coldReset cause pin detector straps left s).budget = { Budget.reset with sense := s.budget.sense } := by
  simp only [coldReset, cutOperation_budget]

theorem coldReset_flash_idle (idle : s.store.running = none) :
    (coldReset cause pin detector straps left s).flash = s.flash := by
  simp only [coldReset, cutOperation_idle left idle]

end

/-! ### The three commands -/

/-- Each of the three commands is a cold reset of its own cause; they differ in what holds the part from then on (log 47). -/
theorem exec_coldReset {i : Instr} {cause : ResetCause} {straps : Vector Strap 4} {left : FlashLeft} (s : State)
    (h : (i = .powerReset straps left ∧ cause = .power) ∨ (i = .brownoutReset straps left ∧ cause = .brownout) ∨
      (i = .pinReset straps left ∧ cause = .pin)) :
    ∃ pin detector, exec i s = .next (coldReset cause pin detector straps left s) := by
  obtain ⟨rfl, rfl⟩ | ⟨rfl, rfl⟩ | ⟨rfl, rfl⟩ := h
  · exact ⟨false, false, rfl⟩
  · exact ⟨s.resets.pinHolds, true, rfl⟩
  · exact ⟨true, s.resets.detectorHolds, rfl⟩

/-- Settles O10: the three commands are cold resets, and a cold reset starts every block from its reset values; what it takes
over (memories, pins, waiting commands) the cut of a running operation leaves, the flash apart. -/
theorem coldResetClearsPart : Obligations.ColdResetClearsPart := by
  intro i cause straps left s h
  obtain ⟨pin, detector, e⟩ := exec_coldReset s h
  exact ⟨_, e, rfl, coldReset_track, rfl, coldReset_layer, coldReset_head, rfl, coldReset_priority, coldReset_ring, rfl,
    coldReset_dram, rfl, coldReset_budget, rfl, coldReset_window, rfl, rfl, rfl, rfl, rfl, coldReset_flash_idle,
    coldReset_port, rfl, rfl, rfl, coldReset_pending⟩

/-- A part that the core detector holds, with CS_N of station 2 low, one byte listed in the flash and one in loop DRAM. -/
def heldByDetector : State :=
  { State.inPowerReset with
    dram := [(4, 7#8)], flash := [(65536, 1#8)], resets := ⟨.brownout, true, false, true⟩
    ports := (Vector.replicate 4 Port.reset).set 2 { Port.reset with csLow := true } }

/-- The premise is met by a PIN reset of a part that a brownout still holds: the cause is PIN, and both memories stay. -/
theorem pinReset_heldByDetector : ∃ t, exec (.pinReset (Vector.replicate 4 ⟨true, false⟩) []) heldByDetector = .next t ∧
    t.resets.cause = .pin ∧ t.dram = [(4, 7#8)] ∧ t.flash = [(65536, 1#8)] ∧ (t.port 2).csLow = true := by
  obtain ⟨t, e, -, -, -, -, -, -, -, -, -, dram, -, -, -, -, -, -, -, -, -, flash, port, -, -, cause, -⟩ :=
    coldResetClearsPart _ .pin (Vector.replicate 4 ⟨true, false⟩) [] heldByDetector (.inr (.inr ⟨rfl, rfl⟩))
  exact ⟨t, e, cause, dram, flash rfl, by rw [port]; rfl⟩

end Sys2Proof.Proofs.ColdReset

/-! SUPPORT. Chapters 6 and 8: what every command leaves to be done at its end, and the fold threshold that SET FOLD sets and
the resets leave; with them the two statements about it. -/

namespace Sys2Proof.Proofs.Folding

open Sys2Proof Sys2Proof.Machine

/-! ### The three ways in which a command ends (log 5, log 29) -/

/-- What `Settled` reads: the events that are due, the start attempt asked for, the frame whose pair is not formed. -/
def KeepsDue (s t : State) : Prop :=
  t.dues = s.dues ∧ t.fold.attemptDue = s.fold.attemptDue ∧ t.mixer.frameOpen = s.mixer.frameOpen

theorem KeepsDue.refl (s : State) : KeepsDue s s := ⟨rfl, rfl, rfl⟩

theorem KeepsDue.setPort (s : State) (st : Station) (p : Port) : KeepsDue s (s.setPort st p) := ⟨rfl, rfl, rfl⟩

/-- A command's own effect ends with `finish`, with a cold reset, or touches nothing that a boundary waits for. -/
inductive Ends (s : State) : State → Prop
  | finished (u : State) : Ends s (finish u)
  | cold (cause : ResetCause) (pin detector : Bool) (straps : Vector Strap 4) (left : FlashLeft) :
      Ends s (coldReset cause pin detector straps left s)
  | kept {t : State} (h : KeepsDue s t) : Ends s t

/-- A cold reset leaves no start attempt, and no frame of which the pair is still to be formed (R114, R143). -/
theorem coldReset_settled (cause : ResetCause) (pin detector : Bool) (straps : Vector Strap 4) (left : FlashLeft) (s : State) :
    Settled (coldReset cause pin detector straps left s) := ⟨rfl, fun frameOpen => nomatch frameOpen⟩

theorem Ends.settled {s t : State} (h : Ends s t) (hs : Settled s) : Settled t := by
  cases h with
  | finished u => exact finish_settled u
  | cold => exact coldReset_settled ..
  | kept h =>
    obtain ⟨dues, attempt, frame⟩ := h
    exact settled_congr dues attempt frame hs

/-! ### How each command ends -/

/-- R183: every request but RESTART goes through its port in the same way. -/
theorem exec_request {i : Instr} {st : Station} (h : requester i = some st) (hr : i ≠ .restart st) (s : State) :
    exec i s = .next (request st i (serveRequest i) s) := by
  cases i
  case restart =>
    cases h
    exact absurd rfl hr
  all_goals cases h <;> rfl

theorem request_ends (st : Station) (i : Instr) (run : State → Reply × State) (s : State) : Ends s (request st i run s) := by
  simp only [request]
  split
  case isTrue => exact .kept (.refl s)
  case isFalse =>
    split
    case isTrue => exact .finished _
    case isFalse => exact .kept (.setPort s st _)

theorem restartRequest_ends (st : Station) (s : State) : Ends s (restartRequest st s) := by
  simp only [restartRequest]
  split
  case isTrue => exact .kept (.refl s)
  case isFalse =>
    split
    case isTrue => split <;> exact .finished _
    case isFalse => exact .kept (.setPort s st _)

theorem receivePacket_ends (st : Station) (kind len : Byte) (body : List Byte) (check : Byte) (s : State) :
    Ends s (receivePacket st kind len body check s) := by
  simp only [receivePacket]
  split
  case isTrue =>
    split
    case h_1 => split <;> exact .kept (.setPort s st _)
    case h_2 => exact .kept (.setPort s st _)
  case isFalse => exact .kept (.refl s)

theorem placeExecuted_ends (st : Station) (s : State) : Ends s (placeExecuted st s) := by
  simp only [placeExecuted]
  split
  case isTrue => exact .kept (.refl s)
  case isFalse =>
    split
    case h_1 => exact .kept (.refl s)
    case h_2 => exact .kept (.setPort s st _)
    case h_3 => exact .finished _

/-- The end of a reset starts the clocks and wakes the ports; nothing falls due before a boundary (R114, R179). -/
theorem endReset_ends (detectorLast : Bool) (s : State) : Ends s (endReset detectorLast s) := by
  simp only [endReset]
  split
  case isTrue => exact .kept ⟨rfl, rfl, rfl⟩
  case isFalse => exact .kept (.refl s)

theorem frameBoundary_ends (inputs : Vector Sample 8) (late : Late) (s : State) : Ends s (frameBoundary inputs late s) := by
  simp only [frameBoundary]
  split
  case isTrue => exact .kept (.refl s)
  case isFalse => exact .finished _

theorem exec_ends (i : Instr) (s : State) : ∃ t, exec i s = .next t ∧ Ends s t := by
  cases h : requester i with
  | some st =>
    by_cases hr : i = .restart st
    · subst hr
      exact ⟨_, rfl, restartRequest_ends st s⟩
    · exact ⟨_, exec_request h hr s, request_ends st i _ s⟩
  | none =>
    cases i
    case powerReset straps left => exact ⟨_, rfl, .cold ..⟩
    case brownoutReset straps left => exact ⟨_, rfl, .cold ..⟩
    case pinReset straps left => exact ⟨_, rfl, .cold ..⟩
    case resetEnd detectorLast => exact ⟨_, rfl, endReset_ends detectorLast s⟩
    case csFall st => exact ⟨_, rfl, .kept (.setPort s st _)⟩
    case csRise st => exact ⟨_, rfl, .kept (.setPort s st _)⟩
    case packetReceived st kind len body check => exact ⟨_, rfl, receivePacket_ends st kind len body check s⟩
    case replyDelivered st => exact ⟨_, rfl, .kept (.setPort s st _)⟩
    case replyPlaced st => exact ⟨_, rfl, placeExecuted_ends st s⟩
    case frameBoundary inputs late => exact ⟨_, rfl, frameBoundary_ends inputs late s⟩
    case startup | startupCommit | beatBoundary | entryFire | takeLimitClose | shortTakeClose | passEnd | fadeEnd
        | foldComplete | supplyReading | flashSectorDone | flashPageDone | verifyProgress | loadCopyDone
        | optionRewriteDone =>
      exact ⟨_, rfl, .finished _⟩
    all_goals exact nomatch h

theorem exec_settled {i : Instr} {s t : State} (hs : Settled s) (h : exec i s = .next t) : Settled t := by
  obtain ⟨u, e, ends⟩ := exec_ends i s
  rw [e] at h
  cases h
  exact ends.settled hs

/-- Settles O3: a command ends in one of three ways, each of which leaves a settled state; an idle step changes nothing. -/
theorem settledIsKept : Obligations.SettledIsKept := by
  refine ⟨⟨finish_settled, fun s => finish_of_settled⟩, fun s t hs h => ?_⟩
  simp only [step] at h
  split at h
  case h_1 =>
    cases h
    exact hs
  case h_2 c rest _ =>
    have waiting : Settled { s with pending := rest } := settled_congr rfl rfl rfl hs
    exact exec_settled waiting h

/-! ### SET FOLD (R141) -/

theorem clampFold_eq (n : BitVec 16) : clampFold n.toNat = if n = 0#16 then 0 else max 3 (min n.toNat 12) := by
  have zero : n.toNat = 0 ↔ n = 0#16 := by rw [← BitVec.toNat_inj, BitVec.toNat_zero]
  simp only [clampFold, clamp, zero]
  repeat' split
  all_goals omega

theorem exec_setFold {st : Station} {n : BitVec 16} {s : State} (hs : Settled s) (ht : Taken (.setFold st n) st s) :
    exec (.setFold st n) s = .next (holdReply st ⟨.ok, []⟩ { s with fold := { s.fold with
      threshold := if n = 0#16 then 0 else max 3 (min n.toNat 12) } }) := by
  rw [← clampFold_eq]
  exact congrArg Host.Outcome.next (request_same (doSetFold n) hs ht rfl rfl rfl rfl)

/-! ### The threshold under a RESTART (R189) -/

theorem threshold_of_outer {s t : State} (h : t.outer = s.outer) : t.fold.threshold = s.fold.threshold := by
  simp only [State.outer, State.shell, State.settings, Prod.mk.injEq] at h
  simp only [h]

theorem finish_threshold (s : State) : (finish s).fold.threshold = s.fold.threshold := threshold_of_outer (finish_outer s)

/-- A port that holds no request, and the port of the RESTART itself, add nothing to it. -/
theorem runHeld_none {st u : Station} {s : State} (h : u ≠ st → ∀ i, (s.port u).executor ≠ .holding i) :
    runHeld st s u = s := by
  by_cases own : u = st
  · simp only [runHeld, own, if_true]
  · simp only [runHeld, own, if_false]
    split
    case h_2 i _ held => exact absurd held (h own i)
    all_goals rfl

theorem restartFrom_alone {st : Station} {s : State} (h : ∀ u, u ≠ st → ∀ i, (s.port u).executor ≠ .holding i) :
    restartFrom st s = restartPart s := by
  rw [restartFrom, foldl_id fun u => runHeld_none (h u)]

theorem exec_restart {st : Station} {s : State} (h : Taken (.restart st) st s) :
    exec (.restart st) s = .next (finish (placeReply st (plain .ok) (restartFrom st s))) := by
  obtain ⟨awake, takes, passes⟩ := h
  have e : restartRequest st s = finish (placeReply st (plain .ok) (restartFrom st s)) := by
    simp only [restartRequest, awake, takes, passes, if_true]
    rfl
  exact congrArg Host.Outcome.next e

theorem restartOperation_outer (s : State) : (restartOperation s).outer = s.outer := by
  simp only [restartOperation]
  split
  case h_1 => rfl
  case h_2 =>
    split
    case h_5 => rfl
    all_goals exact endRestarted_outer s

theorem restartPart_threshold (s : State) : (restartPart s).fold.threshold = s.fold.threshold :=
  calc (restartPart s).fold.threshold
    _ = (restartOperation s).fold.threshold := rfl
    _ = s.fold.threshold := threshold_of_outer (restartOperation_outer s)

/-- §8.1: FT is among the settings that a RESTART keeps. -/
theorem exec_restart_threshold {st : Station} {s : State} (ht : Taken (.restart st) st s)
    (h : ∀ u, u ≠ st → ∀ i, (s.port u).executor ≠ .holding i) :
    ∃ t, exec (.restart st) s = .next t ∧ t.fold.threshold = s.fold.threshold := by
  refine ⟨_, exec_restart ht, ?_⟩
  rw [restartFrom_alone h, finish_threshold]
  exact restartPart_threshold s

/-! ### READ SUPPLY (R140) -/

/-- The threshold follows the band table in the reply's body. -/
theorem doReadSupply_threshold (s : State) : ∃ pre post, doReadSupply s =
    (⟨.ok, pre ++ tableBytes s.budget.table ++ leBytes 1 s.fold.threshold ++ post⟩, s) := by
  refine ⟨readingBytes s.budget.reading ++ [s.budget.band.byte] ++ leBytes 1 s.budget.limit ++
      leBytes 3 s.budget.ceiling ++ leBytes 1 (streamCount s) ++ [boolByte s.budget.foldPaused],
    idList s.budget.shedList ++ idList s.budget.reserve ++ leBytes 2 s.pool.free.length ++ leBytes 2 s.pool.lowMark ++
      [boolByte s.pool.belowMark], ?_⟩
  simp only [doReadSupply, okWith, List.append_assoc]

theorem exec_readSupply {st : Station} {s : State} {r : Reply} (hs : Settled s) (ht : Taken (.readSupply st) st s)
    (hr : doReadSupply s = (r, s)) : exec (.readSupply st) s = .next (holdReply st r s) :=
  congrArg Host.Outcome.next (request_same doReadSupply hs ht hr rfl rfl rfl)

/-- Settles O25: the request by its own equation, the resets by the threshold that each leaves, the reply by its parts. -/
theorem setFoldClampsThreshold : Obligations.SetFoldClampsThreshold := by
  refine ⟨fun st n s hs ht => exec_setFold hs ht, fun straps left s => ⟨⟨_, rfl, rfl⟩, ⟨_, rfl, rfl⟩, ⟨_, rfl, rfl⟩⟩,
    fun st s ht h => exec_restart_threshold ht h, fun st s hs ht => ?_⟩
  obtain ⟨pre, post, e⟩ := doReadSupply_threshold s
  exact ⟨pre, post, exec_readSupply hs ht e⟩

/-- A part out of start-up whose FT is 5, with a RESTART and a READ SUPPLY waiting. -/
def thresholdFive : State :=
  { State.reset with
    store := { Store.reset with engine := .idle, phase := .over }
    fold := { FoldUnit.reset with threshold := 5 }
    pending := [.restart 0, .readSupply 0] }

/-- The hypotheses of the SET FOLD clause are met: FT 1 is taken as 3. -/
theorem setFold_one_of_thresholdFive : exec (.setFold 0 1#16) thresholdFive = .next (holdReply 0 ⟨.ok, []⟩
    { thresholdFive with fold := { FoldUnit.reset with threshold := 3 } }) :=
  exec_setFold (by decide +kernel) (by decide +kernel)

/-- The hypotheses of the RESTART clause are met: FT 5 stays, and the part is left settled. -/
theorem step_thresholdFive : ∃ t, step thresholdFive = .next t ∧ t.fold.threshold = 5 ∧ Settled t := by
  have alone : ∀ u i, (thresholdFive.port u).executor ≠ .holding i := fun u i => by
    have port : thresholdFive.port u = Port.reset := Vector.getElem_replicate u.isLt
    rw [port]
    exact fun holding => nomatch holding
  obtain ⟨t, e, threshold⟩ := exec_restart_threshold (st := 0) (s := { thresholdFive with pending := [.readSupply 0] })
    (by decide +kernel) fun u _ => alone u
  exact ⟨t, e, threshold, settledIsKept.2 thresholdFive t (by decide +kernel) e⟩

end Sys2Proof.Proofs.Folding

/-! SUPPORT. Chapter 9, R153 and R160: every operation keeps `WindowsOk`. A record that leaves LIVE, REDO and PREPARING is
written only into a slot on which no window is OPEN: a FREE slot, or one whose windows a purge has made LOST. One lemma per
operation, `WindowsOk.after_<operation>`, in the order of the model's files, so that a chain of them follows the steps. -/

namespace Sys2Proof.Machine

/-- Windows and layer records: what R153's law reads. -/
def State.sight (s : State) := (s.windows, s.layers)

/-- The layer states that an OPEN window may stand on (R153). -/
def Shown (x : LayerState) : Prop := x = .live ∨ x = .redo ∨ x = .preparing

/-- The station's window is OPEN on the layer (R160). -/
def OpenOn (l : LayerId) (s : State) (st : Station) : Prop :=
  (s.window st).state = .opened ∧ (s.window st).layer = some l

section

variable {s t u : State} {l : LayerId}

/-! ### What a write to a window or to a layer needs -/

theorem WindowsOk.after_states (h : WindowsOk s) (hw : t.windows = s.windows)
    (hl : ∀ l, (t.layer l).state = (s.layer l).state) : WindowsOk t := by
  intro st isOpen
  simp only [State.window, hw] at isOpen ⊢
  simp only [hl]
  exact h st isOpen

/-- An operation that leaves windows and layers alone. -/
theorem WindowsOk.same (h : WindowsOk s) (e : t.sight = s.sight) : WindowsOk t := by
  obtain ⟨windows, layers⟩ := Prod.mk.inj e
  exact h.after_states windows fun l => by rw [State.layer, State.layer, layers]

theorem WindowsOk.not_openOn_free (h : WindowsOk s) (hl : (s.layer l).state = .free) (st : Station) : ¬OpenOn l s st := by
  intro ⟨isOpen, on⟩
  obtain ⟨m, hm, shown⟩ := h st isOpen
  obtain rfl : l = m := Option.some.inj (on.symm.trans hm)
  rw [hl] at shown
  exact shown.elim nofun (·.elim nofun nofun)

/-- Any record may be written into a slot on which no window is OPEN. -/
theorem WindowsOk.after_setLayer_unwatched (h : WindowsOk s) {x : Layer} (hn : ∀ st, ¬OpenOn l s st) :
    WindowsOk (s.setLayer l x) := by
  intro st isOpen
  obtain ⟨m, hm, shown⟩ := h st isOpen
  have other : m ≠ l := fun e => hn st ⟨isOpen, e ▸ hm⟩
  exact ⟨m, hm, by rw [layer_setLayer_ne _ _ _ _ other]; exact shown⟩

/-- A record in a state that a window may stand on, or in the state of the record before it. -/
theorem WindowsOk.after_setLayer (h : WindowsOk s) {x : Layer} (hx : Shown x.state ∨ x.state = (s.layer l).state) :
    WindowsOk (s.setLayer l x) := by
  intro st isOpen
  obtain ⟨m, hm, shown⟩ := h st isOpen
  refine ⟨m, hm, ?_⟩
  by_cases e : m = l
  · subst e
    rw [layer_setLayer_self]
    exact hx.elim id fun same => by rw [same]; exact shown
  · rw [layer_setLayer_ne _ _ _ _ e]
    exact shown

/-- A record in the state of the record before it. -/
theorem layer_state_setLayer {x : Layer} (m : LayerId) (hx : x.state = (s.layer l).state) :
    ((s.setLayer l x).layer m).state = (s.layer m).state := by
  by_cases e : m = l
  · subst e
    rw [layer_setLayer_self, hx]
  · rw [layer_setLayer_ne _ _ _ _ e]

theorem WindowsOk.after_modLayer (h : WindowsOk s) {f : Layer → Layer} (hf : ∀ x, (f x).state = x.state) :
    WindowsOk (s.modLayer l f) :=
  h.after_states rfl fun m => layer_state_setLayer m (hf _)

theorem WindowsOk.after_setWindow (h : WindowsOk s) {st : Station} {w : Window}
    (hw : w.state = .opened → ∃ l, w.layer = some l ∧ Shown (s.layer l).state) : WindowsOk (s.setWindow st w) := by
  intro v isOpen
  by_cases e : v = st
  · subst e
    rw [window_setWindow_self] at isOpen ⊢
    exact hw isOpen
  · rw [window_setWindow_ne _ _ _ _ e] at isOpen ⊢
    exact h v isOpen

theorem WindowsOk.after_foldl {α : Type} {f : State → α → State} (h : WindowsOk s)
    (hf : ∀ a {s}, WindowsOk s → WindowsOk (f s a)) (xs : List α) : WindowsOk (xs.foldl f s) := by
  induction xs generalizing s with
  | nil => exact h
  | cons a rest ih => exact ih (hf a h)

/-! ### Block Pool, layer words, heads (R80, R94, R99) -/

theorem WindowsOk.after_testLowMark (h : WindowsOk s) : WindowsOk (testLowMark s) := by
  simp only [testLowMark]
  split
  · exact h.same rfl
  · exact h

theorem WindowsOk.after_allocate (h : WindowsOk s) {c : Nat} (e : allocate l c s = some t) : WindowsOk t := by
  simp only [allocate] at e
  split at e
  · cases e
    exact ((h.same (by rfl)).after_modLayer (by intro; rfl)).after_testLowMark
  · cases e

/-- An allocation that falls back on another state where the pool has too few blocks. -/
theorem WindowsOk.after_allocate_getD (h : WindowsOk s) {c : Nat} (hu : WindowsOk u) :
    WindowsOk ((allocate l c s).getD u) := by
  cases e : allocate l c s with
  | none => exact hu
  | some t => exact h.after_allocate e

theorem WindowsOk.after_allocate_or_keep (h : WindowsOk s) {c : Nat} : WindowsOk ((allocate l c s).getD s) :=
  h.after_allocate_getD h

theorem WindowsOk.after_trimExtents (h : WindowsOk s) {n : Nat} : WindowsOk (trimExtents l n s) := by
  simp only [trimExtents]
  split
  · exact h
  · refine .same (s := s.setLayer l _) ?_ (by exact rfl)
    exact h.after_setLayer (.inr rfl)

theorem storeLayerWord_shown (l : LayerId) (i : Nat) (w : Word) (s : State) :
    (storeLayerWord l i w s).windows = s.windows ∧ ∀ m, ((storeLayerWord l i w s).layer m).state = (s.layer m).state := by
  simp only [storeLayerWord]
  split
  · exact ⟨rfl, fun _ => rfl⟩
  · split
    · exact ⟨rfl, fun m => layer_state_setLayer m (s := s) (l := l) (by rfl)⟩
    · exact ⟨rfl, fun _ => rfl⟩

theorem WindowsOk.after_storeLayerWord (h : WindowsOk s) {i : Nat} {w : Word} : WindowsOk (storeLayerWord l i w s) :=
  h.after_states (storeLayerWord_shown l i w s).1 (storeLayerWord_shown l i w s).2

theorem WindowsOk.after_storeLayerWords (h : WindowsOk s) {n i : Nat} {ws : List Word} :
    WindowsOk (storeLayerWords l n i ws s) := by
  induction ws generalizing i s with
  | nil => exact h
  | cons w rest ih => exact ih h.after_storeLayerWord

theorem WindowsOk.after_startLayerFade (h : WindowsOk s) {v : Nat} : WindowsOk (startLayerFade l v s) :=
  h.after_modLayer fun _ => rfl

theorem WindowsOk.after_setLayerEnv (h : WindowsOk s) {v : Nat} : WindowsOk (setLayerEnv l v s) :=
  h.after_modLayer fun _ => rfl

theorem setNewer_layers (g : HeadId) (b : Bool) (s : State) : (setNewer g b s).layers = s.layers := by
  simp only [setNewer]
  split <;> rfl

theorem WindowsOk.after_setNewer (h : WindowsOk s) {g : HeadId} {b : Bool} : WindowsOk (setNewer g b s) := by
  simp only [setNewer]
  split
  · exact h
  · exact h.same rfl

theorem WindowsOk.after_releaseHead (h : WindowsOk s) {g : HeadId} : WindowsOk (releaseHead g s) :=
  (h.same (by rfl)).after_setNewer

theorem WindowsOk.after_releaseHeadOf (h : WindowsOk s) : WindowsOk (releaseHeadOf l s) := by
  simp only [releaseHeadOf]
  split
  · exact h
  · exact h.after_releaseHead

/-! ### The end of a store operation (R164, R176) -/

theorem WindowsOk.after_endStoreOp (h : WindowsOk s) {r : StoreResult} {d : Detail} : WindowsOk (endStoreOp r d s) := by
  simp only [endStoreOp]
  split
  · exact h
  · exact h.same rfl

theorem WindowsOk.after_endStoreUnstated (h : WindowsOk s) {r : StoreResult} : WindowsOk (endStoreUnstated r s) :=
  (h.same (by rfl)).after_endStoreOp

theorem WindowsOk.after_endRestarted (h : WindowsOk s) : WindowsOk (endRestarted s) := by
  simp only [endRestarted]
  split
  · exact h
  · exact h.same rfl

theorem WindowsOk.after_endAborted (h : WindowsOk s) : WindowsOk (endAborted s) := by
  simp only [endAborted]
  split
  · exact h
  · exact h.after_endStoreOp

theorem WindowsOk.after_storeLayerGone (h : WindowsOk s) : WindowsOk (storeLayerGone l s) := by
  simp only [storeLayerGone]
  split
  · exact h
  · split
    · split
      · exact h.after_endAborted
      · exact h
    · split
      · exact h.after_endAborted
      · exact h
    · split
      · exact h.after_endStoreUnstated
      · exact h
    · exact h

/-! ### Purges (R62, R160) -/

theorem WindowsOk.after_loseWindow (h : WindowsOk s) {st : Station} : WindowsOk (loseWindow l s st) := by
  simp only [loseWindow]
  split
  · refine .same (s := s.setWindow st _) ?_ (by exact rfl)
    exact h.after_setWindow fun isOpen => nomatch isOpen
  · exact h

/-- R160: a window that is still OPEN on the layer is another station's, and was OPEN on it before. -/
theorem openOn_loseWindow {st v : Station} (h : OpenOn l (loseWindow l s st) v) : v ≠ st ∧ OpenOn l s v := by
  simp only [loseWindow] at h
  split at h
  case isTrue =>
    by_cases e : v = st
    · subst e
      obtain ⟨isOpen, -⟩ := h
      change ((s.setWindow v { s.window v with state := .lost }).window v).state = .opened at isOpen
      rw [window_setWindow_self] at isOpen
      exact nomatch isOpen
    · refine ⟨e, ?_⟩
      change OpenOn l (s.setWindow st { s.window st with state := .lost }) v at h
      simpa only [OpenOn, window_setWindow_ne _ _ _ _ e] using h
  case isFalse other => exact ⟨fun e => other (e ▸ h), h⟩

theorem openOn_foldl_loseWindow {v : Station} (sts : List Station) (h : OpenOn l (sts.foldl (loseWindow l) s) v) :
    v ∉ sts ∧ OpenOn l s v := by
  induction sts generalizing s with
  | nil => exact ⟨List.not_mem_nil, h⟩
  | cons st rest ih =>
    obtain ⟨notRest, h⟩ := ih h
    obtain ⟨notThis, h⟩ := openOn_loseWindow h
    exact ⟨List.not_mem_cons_of_ne_of_not_mem notThis notRest, h⟩

theorem mem_stations : ∀ st : Station, st ∈ stations := by decide

/-- R62 step 4: no station is left out. -/
theorem not_openOn_loseWindows (l : LayerId) (s : State) (st : Station) : ¬OpenOn l (loseWindows l s) st := fun h =>
  (openOn_foldl_loseWindow stations h).1 (mem_stations st)

theorem WindowsOk.after_loseWindows (h : WindowsOk s) : WindowsOk (loseWindows l s) :=
  h.after_foldl (fun _ _ h => h.after_loseWindow) stations

theorem WindowsOk.after_leaveTrack (h : WindowsOk s) : WindowsOk (leaveTrack l s) := by
  simp only [leaveTrack]
  split
  · exact h
  · exact h.same rfl

theorem WindowsOk.after_release (h : WindowsOk s) {blocks : List Nat} : WindowsOk (release blocks s) := h.same rfl

theorem openOn_release {blocks : List Nat} {st : Station} : OpenOn l (release blocks s) st ↔ OpenOn l s st := .rfl

/-- R62 steps 4 to 6: once the windows on a layer are LOST, its slot may become FREE. -/
theorem WindowsOk.after_free (h : WindowsOk s) {blocks : List Nat} :
    WindowsOk ((release blocks (loseWindows l s)).setLayer l Layer.free) :=
  h.after_loseWindows.after_release.after_setLayer_unwatched fun st on =>
    not_openOn_loseWindows l s st (openOn_release.mp on)

theorem WindowsOk.after_leaveBudget (h : WindowsOk s) : WindowsOk (leaveBudget l s) := h.same rfl

theorem WindowsOk.after_purgeLayer (h : WindowsOk s) : WindowsOk (purgeLayer l s) :=
  h.after_leaveTrack.after_leaveBudget.after_releaseHeadOf.after_storeLayerGone.after_free

theorem WindowsOk.after_clearFolding (h : WindowsOk s) : WindowsOk (clearFolding l s) := h.after_modLayer fun _ => rfl

theorem WindowsOk.after_endFold (h : WindowsOk s) : WindowsOk (endFold s) := by
  simp only [endFold]
  split
  · exact h
  · exact h.after_clearFolding.after_clearFolding.same rfl

theorem WindowsOk.after_abandonFold (h : WindowsOk s) : WindowsOk (abandonFold s) := by
  simp only [abandonFold]
  split
  · exact h
  · exact h.after_endFold.after_purgeLayer

theorem WindowsOk.after_purge (h : WindowsOk s) : WindowsOk (purge l s) := by
  simp only [purge]
  split
  · exact h.after_purgeLayer
  · split
    · exact h.after_endFold.after_purgeLayer
    · split
      · exact h.after_abandonFold.after_purgeLayer
      · exact h.after_purgeLayer

theorem WindowsOk.after_purgeAll (h : WindowsOk s) {ls : List LayerId} : WindowsOk (purgeAll ls s) :=
  h.after_foldl (fun _ _ h => h.after_purge) ls

theorem WindowsOk.after_purgeRedo (h : WindowsOk s) {x : TrackId} : WindowsOk (purgeRedo x s) := h.after_purgeAll

theorem WindowsOk.after_testFoldWanted (h : WindowsOk s) {x : TrackId} : WindowsOk (testFoldWanted x s) := by
  simp only [testFoldWanted]
  split
  · exact h.same rfl
  · exact h

/-- R60: a pushed take becomes LIVE. -/
theorem WindowsOk.after_pushTake (h : WindowsOk s) {x : TrackId} : WindowsOk (pushTake x l s) := by
  refine (WindowsOk.same (s := (purgeRedo x s).setLayer l _) ?_ (by exact rfl)).after_testFoldWanted
  exact h.after_purgeRedo.after_setLayer (.inl (.inl rfl))

/-! ### Events, drops and tracks: no window, no layer -/

theorem WindowsOk.after_modTrack (h : WindowsOk s) {x : TrackId} {f : Track → Track} : WindowsOk (s.modTrack x f) :=
  h.same rfl

theorem WindowsOk.after_setTrackState (h : WindowsOk s) {x : TrackId} {y : TrackState} : WindowsOk (setTrackState x y s) :=
  h.same rfl

theorem WindowsOk.after_raiseAll (h : WindowsOk s) {c : EventClass} : WindowsOk (raiseAll c s) := h.same rfl

theorem WindowsOk.after_tellDrop (h : WindowsOk s) {st : Station} {x : TrackId} {a : Action} {r : DropReason} :
    WindowsOk (tellDrop st x a r s) := h.same rfl

/-! ### Grid Unit (R2, R3) -/

theorem WindowsOk.after_raisePosition (h : WindowsOk s) {g : Tempo} : WindowsOk (raisePosition g s) := by
  simp only [raisePosition]
  repeat' split
  all_goals exact h.same rfl

theorem WindowsOk.after_enterGrid (h : WindowsOk s) {g : Tempo} : WindowsOk (enterGrid g s) :=
  (h.same (by rfl)).after_raisePosition

theorem WindowsOk.after_advanceGrid (h : WindowsOk s) : WindowsOk (advanceGrid s) := by
  simp only [advanceGrid]
  split
  · exact h
  · exact h.same rfl

theorem WindowsOk.after_dropAllGrid (h : WindowsOk s) : WindowsOk (dropAllGrid s) :=
  WindowsOk.after_foldl (s := { s with queue := [] }) (h.same rfl) (fun _ _ h => h.after_tellDrop) s.queue

/-! ### Budget Unit (R130, R133, R135, R138) -/

/-- A shed moves no window and keeps every layer's state. -/
theorem WindowsOk.after_shedOnly (h : WindowsOk s) (shed : ShedOnly s t) : WindowsOk t := by
  obtain ⟨rest, layers⟩ := shed
  simp only [State.unshedPart, Prod.mk.injEq] at rest
  obtain ⟨-, -, -, -, -, -, -, -, windows, -⟩ := rest
  refine h.after_states windows fun l => ?_
  obtain ⟨_, _, _, e⟩ := layers l
  rw [e]

theorem ShedOnly.layer_state (shed : ShedOnly s t) (l : LayerId) : (t.layer l).state = (s.layer l).state := by
  obtain ⟨_, _, _, e⟩ := shed.2 l
  rw [e]

theorem WindowsOk.after_shedToBudget (h : WindowsOk s) : WindowsOk (shedToBudget s) :=
  h.after_shedOnly (shedToBudget_shedOnly s)

theorem WindowsOk.after_admitOnto (h : WindowsOk s) {x : TrackId} (e : admitOnto x s = some t) : WindowsOk t :=
  h.after_shedOnly (admitOnto_shedOnly x s t e)

theorem WindowsOk.after_resumeFold (h : WindowsOk s) : WindowsOk (resumeFold s) := by
  simp only [resumeFold]
  split
  · exact h.same rfl
  · exact h

theorem WindowsOk.after_pauseFold (h : WindowsOk s) : WindowsOk (pauseFold s) := by
  simp only [pauseFold]
  split
  · exact h.same rfl
  · exact h

theorem WindowsOk.after_unshedLayer (h : WindowsOk s) : WindowsOk (unshedLayer l s) :=
  (h.same (by rfl)).after_modLayer fun _ => rfl

theorem WindowsOk.after_leaveReserve (h : WindowsOk s) : WindowsOk (leaveReserve l s) := h.same rfl

theorem WindowsOk.after_restoreLayer (h : WindowsOk s) : WindowsOk (restoreLayer l s) :=
  h.after_unshedLayer.after_leaveReserve.after_startLayerFade

theorem WindowsOk.after_restoreFrom (h : WindowsOk s) {ls : List LayerId} : WindowsOk (restoreFrom ls s) := by
  induction ls generalizing s with
  | nil => exact h
  | cons l rest ih =>
    simp only [restoreFrom]
    split
    · exact ih h.after_restoreLayer
    · exact h

theorem WindowsOk.after_restoreShed (h : WindowsOk s) : WindowsOk (restoreShed s) := h.after_restoreFrom

/-! ### Mix Engine (R111, R117) -/

theorem WindowsOk.after_advanceFades (h : WindowsOk s) : WindowsOk (advanceFades s) := by
  refine h.after_states rfl fun l => ?_
  have moved : (advanceFades s).layer l = (s.layer l).advanceFade s.mixer := get_map ..
  rw [moved]
  rfl

theorem WindowsOk.after_advanceFadesIfDue (h : WindowsOk s) : WindowsOk (advanceFadesIfDue s) := by
  simp only [advanceFadesIfDue]
  split
  · exact h.after_advanceFades
  · exact h

theorem WindowsOk.after_endLayerFade (h : WindowsOk s) : WindowsOk (endLayerFade l s) := by
  simp only [endLayerFade]
  split
  · split
    · split
      · exact h.after_setLayerEnv.after_leaveReserve
      · exact h.after_setLayerEnv
    · exact h
  · exact h

theorem WindowsOk.after_endTrackFade (h : WindowsOk s) {x : TrackId} : WindowsOk (endTrackFade x s) := by
  simp only [endTrackFade]
  split
  · split
    · exact h.after_modTrack
    · exact h
  · exact h

theorem WindowsOk.after_endFade (h : WindowsOk s) {which : FadeSel} : WindowsOk (endFade which s) := by
  cases which with
  | track x => exact h.after_endTrackFade
  | layer l => exact h.after_endLayerFade

theorem WindowsOk.after_endAllFades (h : WindowsOk s) : WindowsOk (endAllFades s) :=
  (h.after_foldl (fun _ _ h => h.after_endTrackFade) trackIds).after_foldl (fun _ _ h => h.after_endLayerFade) layerIds

theorem WindowsOk.after_mixFrame (h : WindowsOk s) : WindowsOk (mixFrame s) := by
  simp only [mixFrame]
  split <;> exact h.same rfl

/-! ### Fold Engine (R144 to R147) -/

/-- The slot that an operation takes is FREE (R50), so that no window is OPEN on it. -/
theorem freeSlot_state (h : freeSlot s = some l) : (s.layer l).state = .free :=
  eq_of_beq (List.find?_some (p := fun l => (s.layer l).state == .free) h)

/-- The marks of the sources leave the slot of the result FREE. -/
theorem layer_state_setFolding (m : LayerId) : ((setFolding m s).layer l).state = (s.layer l).state :=
  layer_state_setLayer l rfl

theorem WindowsOk.after_setFolding (h : WindowsOk s) : WindowsOk (setFolding l s) := h.after_modLayer fun _ => rfl

theorem WindowsOk.after_startFold (h : WindowsOk s) {x : TrackId} {a b : LayerId} (free : (s.layer l).state = .free)
    (e : startFold x a b l s = some t) : WindowsOk t := by
  simp only [startFold, Option.map_eq_some_iff] at e
  obtain ⟨v, allocated, rfl⟩ := e
  have marked : WindowsOk (setFolding b (setFolding a (clearFoldWanted x s))) :=
    WindowsOk.after_setFolding (WindowsOk.after_setFolding h.after_modTrack)
  have stillFree : ((setFolding b (setFolding a (clearFoldWanted x s))).layer l).state = .free := by
    rw [layer_state_setFolding, layer_state_setFolding]
    exact free
  exact ((marked.after_setLayer_unwatched (marked.not_openOn_free stillFree)).after_allocate allocated).same rfl

theorem WindowsOk.after_tryFold (h : WindowsOk s) {x : TrackId} : WindowsOk (tryFold x s) := by
  simp only [tryFold]
  split
  · split
    · next a b _ r _ free =>
      cases e : startFold x a b r s with
      | none => exact h
      | some t => exact h.after_startFold (freeSlot_state free) e
    · exact h
  · exact h

theorem WindowsOk.after_attemptFrom (h : WindowsOk s) {ts : List TrackId} : WindowsOk (attemptFrom ts s) := by
  induction ts generalizing s with
  | nil => exact h
  | cons x rest ih =>
    simp only [attemptFrom]
    split
    · split
      · exact ih h.after_modTrack
      · exact h.after_tryFold
    · exact ih h

theorem WindowsOk.after_attemptFold (h : WindowsOk s) : WindowsOk (attemptFold s) := by
  simp only [attemptFold]
  split
  · exact h.after_attemptFrom
  · exact h

theorem WindowsOk.after_runAttempt (h : WindowsOk s) : WindowsOk (runAttempt s) := by
  simp only [runAttempt]
  split
  · exact (h.same (by rfl)).after_attemptFold
  · exact h

/-- R147: the result becomes LIVE, and the sources are purged. -/
theorem WindowsOk.after_completeFold (h : WindowsOk s) {j : FoldJob} : WindowsOk (completeFold j s) := by
  simp only [completeFold]
  refine (WindowsOk.after_purgeAll (WindowsOk.after_endFold ?_)).after_raiseAll.after_testFoldWanted
  split
  all_goals
    refine .same (s := s.setLayer j.result _) ?_ (by exact rfl)
    exact h.after_setLayer (.inl (.inl rfl))

theorem WindowsOk.after_advanceFold (h : WindowsOk s) : WindowsOk (advanceFold s) := by
  simp only [advanceFold]
  split
  · exact h
  · split
    · exact (h.after_storeLayerWords.same (by rfl)).after_completeFold
    · exact h.after_storeLayerWords.same rfl

theorem WindowsOk.after_advanceFoldIfDue (h : WindowsOk s) : WindowsOk (advanceFoldIfDue s) := by
  simp only [advanceFoldIfDue]
  split
  · exact (h.same (by rfl)).after_advanceFold
  · exact h

theorem WindowsOk.after_restartFold (h : WindowsOk s) : WindowsOk (restartFold s) := by
  simp only [restartFold]
  split
  · exact h
  · exact h.same rfl

/-! ### Takes (chapter 4) -/

theorem WindowsOk.after_takeHead (h : WindowsOk s) {g : HeadId} {held : Held} : WindowsOk (takeHead g held s) :=
  (h.same (by rfl)).after_setNewer

theorem layer_takeHead {g : HeadId} {held : Held} : (takeHead g held s).layer l = s.layer l := by
  simp only [takeHead, State.layer, setNewer_layers, setHead_layers]

theorem WindowsOk.after_lookAhead (h : WindowsOk s) {g : HeadId} : WindowsOk (lookAhead g s) := by
  simp only [lookAhead]
  split
  · exact h
  · split
    · exact h.after_allocate_getD (h.same rfl)
    · exact h

theorem WindowsOk.after_markLook (h : WindowsOk s) {g : HeadId} : WindowsOk (markLook g s) := by
  simp only [markLook]
  split
  · exact h
  · split
    · exact h.same rfl
    · exact h

theorem WindowsOk.after_takeLook (h : WindowsOk s) {g : HeadId} : WindowsOk (takeLook g s) := by
  simp only [takeLook]
  split
  · exact h
  · split
    · exact (h.same (by rfl)).after_lookAhead
    · exact h

theorem WindowsOk.after_takeLooks (h : WindowsOk s) : WindowsOk (takeLooks s) := h.after_takeLook.after_takeLook

/-- R75: a take's record is written into a FREE slot, and its track names it. -/
theorem WindowsOk.after_takeRecord (h : WindowsOk s) (free : (s.layer l).state = .free) {g : HeadId} {held : Held}
    {x : Layer} {y : TrackId} {f : Track → Track} : WindowsOk (((takeHead g held s).setLayer l x).modTrack y f) := by
  have stillFree : ((takeHead g held s).layer l).state = .free := by rw [layer_takeHead, free]
  exact (h.after_takeHead.after_setLayer_unwatched (h.after_takeHead.not_openOn_free stillFree)).after_modTrack

section

variable {x : TrackId} {src : SourceId} {st : Station} {g : HeadId}

theorem WindowsOk.after_openFirst (h : WindowsOk s) (free : (s.layer l).state = .free) {d : Nat} :
    WindowsOk (openFirst x src st d g l s) :=
  (h.after_takeRecord free).after_allocate_or_keep.after_storeLayerWords.after_lookAhead

theorem WindowsOk.after_openOverdub (h : WindowsOk s) (free : (s.layer l).state = .free) {sp : Nat} {ws : List Word} :
    WindowsOk (openOverdub x src st sp ws g l s) :=
  (h.after_takeRecord free).after_allocate_or_keep.after_storeLayerWords

end

theorem WindowsOk.after_headWrite (h : WindowsOk s) {inputs : Vector Sample 8} {g : HeadId} :
    WindowsOk (headWrite inputs s g) := by
  simp only [headWrite]
  split
  · exact h
  · split
    · exact h.after_storeLayerWord
    · exact h.after_storeLayerWord
    · exact h.after_storeLayerWord.after_modLayer fun _ => rfl

theorem WindowsOk.after_growFirst (h : WindowsOk s) {late : Bool} {g : HeadId} : WindowsOk (growFirst late s g) := by
  simp only [growFirst]
  split
  · exact h
  · split
    · exact h
    all_goals
      split
      · exact (h.after_modLayer (by intro; rfl)).after_markLook
      · exact (h.after_modLayer (by intro; rfl)).after_lookAhead

theorem WindowsOk.after_growTakes (h : WindowsOk s) {late : Bool} : WindowsOk (growTakes late s) :=
  h.after_foldl (fun _ _ h => h.after_growFirst) headIds

section

variable {x : TrackId}

theorem WindowsOk.after_discardFirst (h : WindowsOk s) : WindowsOk (discardFirst x l s) := h.after_purge.after_modTrack

theorem WindowsOk.after_discardOverdub (h : WindowsOk s) : WindowsOk (discardOverdub x l s) :=
  h.after_purge.after_setTrackState

theorem WindowsOk.after_markEmptied (h : WindowsOk s) : WindowsOk (markEmptied x s) := h.same rfl

theorem WindowsOk.after_failCapture (h : WindowsOk s) : WindowsOk (failCapture x l s) :=
  h.after_discardFirst.after_markEmptied.after_raiseAll

theorem WindowsOk.after_fitExtents (h : WindowsOk s) {n : Nat} (e : fitExtents l n s = some t) : WindowsOk t := by
  simp only [fitExtents] at e
  split at e
  · cases e
    exact h.after_trimExtents
  · exact h.after_allocate e

/-- R13, R82: the closed take becomes LIVE. -/
theorem WindowsOk.after_settleFirst (h : WindowsOk s) {n span bars pos : Nat} :
    WindowsOk (settleFirst x l n span bars pos s) :=
  (h.after_modLayer (by intro; rfl)).after_releaseHeadOf.after_modTrack.after_pushTake

theorem WindowsOk.after_closeFirst (h : WindowsOk s) {n : Nat} : WindowsOk (closeFirst x l n s) :=
  h.after_trimExtents.after_settleFirst

theorem WindowsOk.after_completeCapture (h : WindowsOk s) {fpb b cb w : Nat} :
    WindowsOk (completeCapture x l fpb b cb w s) :=
  h.after_settleFirst.after_raiseAll.after_enterGrid

theorem WindowsOk.after_captureTake (h : WindowsOk s) {w : Nat} : WindowsOk (captureTake x l w s) := by
  simp only [captureTake]
  split
  · split
    · next e => exact (h.after_fitExtents e).after_completeCapture
    · split
      · exact h.after_failCapture
      · exact h.after_trimExtents.after_completeCapture
  · exact h.after_failCapture

theorem WindowsOk.after_completeFit (h : WindowsOk s) {n w len : Nat} : WindowsOk (completeFit x l n w len s) :=
  h.after_settleFirst.after_raiseAll

theorem WindowsOk.after_fitTake (h : WindowsOk s) {w d : Nat} : WindowsOk (fitTake x l w d s) := by
  simp only [fitTake]
  split
  · exact h.after_failCapture
  · split
    · next e => exact (h.after_fitExtents e).after_completeFit
    · split
      · exact h.after_failCapture
      · exact h.after_trimExtents.after_completeFit

theorem WindowsOk.after_closeCapture (h : WindowsOk s) {d : Nat} : WindowsOk (closeCapture x l d s) := by
  simp only [closeCapture]
  split
  · exact h.after_fitTake
  · exact h.after_captureTake

theorem WindowsOk.after_closeWholeBars (h : WindowsOk s) : WindowsOk (closeWholeBars x l s).2 := by
  simp only [closeWholeBars]
  split
  · exact h.after_closeFirst
  · exact h.after_discardFirst.after_markEmptied

theorem WindowsOk.after_stopOverdub (h : WindowsOk s) {d : Nat} : WindowsOk (stopOverdub x l d s) := by
  simp only [stopOverdub]
  split
  · exact h.after_discardOverdub
  · exact (h.after_modLayer (by intro; rfl)).after_releaseHeadOf.after_setTrackState.after_pushTake

theorem WindowsOk.after_stopTake (h : WindowsOk s) {held : Held} {d : Nat} : WindowsOk (stopTake held d s) := by
  simp only [stopTake]
  split
  · exact h.after_closeFirst
  · exact h.after_closeCapture
  · exact h.after_stopOverdub

theorem WindowsOk.after_undoTake (h : WindowsOk s) : WindowsOk (undoTake x s) := by
  simp only [undoTake]
  split
  · exact h
  · split
    · exact h.after_discardFirst
    · exact h.after_discardOverdub

theorem WindowsOk.after_tellTake (h : WindowsOk s) {st : Option Station} {a : Action} {r : DropReason} :
    WindowsOk (tellTake x st a r s) := by
  simp only [tellTake]
  split
  · exact h
  · exact h.after_tellDrop

end

section

variable {g : HeadId}

theorem WindowsOk.after_limitClose (h : WindowsOk s) : WindowsOk (limitClose g s) := by
  simp only [limitClose]
  split
  · exact h
  · split
    · exact h.after_stopTake
    · exact h

theorem WindowsOk.after_shortClose (h : WindowsOk s) : WindowsOk (shortClose g s) := by
  simp only [shortClose]
  split
  · exact h
  · split
    · split
      · exact h.after_closeCapture
      all_goals
        split
        · exact h.after_closeWholeBars
        · exact h.after_closeWholeBars.after_tellTake
    · exact h

/-- R87: the needs are met in a state that admission only sheds in, with a slot that is still FREE there. -/
theorem passNeeds_spec {x : TrackId} (e : passNeeds x s = .ok (l, t)) : ShedOnly s t ∧ (t.layer l).state = .free := by
  simp only [passNeeds] at e
  split at e
  · split at e
    · cases e
    · next free =>
      split at e
      · split at e
        · cases e
        · next admitted =>
          cases e
          have shed := admitOne_shedOnly _ _ admitted
          exact ⟨shed, (shed.layer_state _).trans (freeSlot_state free)⟩
      · cases e
  · cases e

theorem WindowsOk.after_endPass (h : WindowsOk s) {foldFirst : Bool} : WindowsOk (endPass g foldFirst s) := by
  simp only [endPass]
  split
  · exact h
  · next held _ =>
    split
    · have closed : WindowsOk (if foldFirst then runAttempt (pushTake held.track held.layer s)
          else pushTake held.track held.layer s) := by
        split
        · exact h.after_pushTake.after_runAttempt
        · exact h.after_pushTake
      split
      · next needs =>
        obtain ⟨shed, free⟩ := passNeeds_spec needs
        exact (closed.after_shedOnly shed).after_openOverdub free
      · exact closed.after_releaseHead.after_setTrackState.after_tellTake
    · exact h

theorem WindowsOk.after_shedIfLive (h : WindowsOk s) : WindowsOk (shedIfLive l s) := by
  simp only [shedIfLive]
  split
  · exact h.after_shedOnly (shedLayer_shedOnly s l)
  · exact h

theorem WindowsOk.after_budgetClose (h : WindowsOk s) : WindowsOk (budgetClose g s) := by
  simp only [budgetClose]
  split
  · exact h
  · refine (WindowsOk.after_shedIfLive ?_).after_tellTake
    split
    · exact h.after_stopOverdub
    · exact h.after_closeWholeBars
    · exact h.after_closeCapture

end

theorem WindowsOk.after_closeNewest (h : WindowsOk s) : WindowsOk (closeNewest s) := by
  simp only [closeNewest]
  split
  · split
    · exact h.after_budgetClose
    · exact h
  · exact h

theorem WindowsOk.after_escalate (h : WindowsOk s) : WindowsOk (escalate s) := by
  simp only [escalate]
  refine (WindowsOk.after_closeNewest ?_).after_closeNewest
  split
  · exact h.after_shedToBudget.after_pauseFold
  · exact h.after_shedToBudget

/-! ### Actions and firing (chapter 2) -/

section

variable {x : TrackId}

theorem WindowsOk.after_purgeOverflow (h : WindowsOk s) : WindowsOk (purgeOverflow x s) := by
  simp only [purgeOverflow]
  split
  · split
    · exact h.after_purge
    · exact h
  · exact h

theorem WindowsOk.after_abandonIfFolding (h : WindowsOk s) : WindowsOk (abandonIfFolding l s) := by
  simp only [abandonIfFolding]
  split
  · exact h.after_abandonFold
  · exact h

/-- R63: the layer becomes REDO. -/
theorem WindowsOk.after_undoLayer (h : WindowsOk s) : WindowsOk (undoLayer x s) := by
  simp only [undoLayer]
  split
  · exact h.after_purgeOverflow
  · next l _ =>
    refine WindowsOk.after_shedOnly ?_ (fadeOut_shedOnly _ l)
    refine WindowsOk.after_abandonIfFolding (WindowsOk.after_unshedLayer ?_)
    exact h.after_purgeOverflow.after_modTrack.after_setLayer (.inl (.inr (.inl rfl)))

theorem WindowsOk.after_undoAction (h : WindowsOk s) : WindowsOk (undoAction x s) := by
  simp only [undoAction]
  split
  · exact h.after_undoTake
  · exact h.after_undoTake
  · exact h.after_undoLayer
  · exact h.after_undoLayer
  · exact h

/-- R65: the layer becomes LIVE. -/
theorem WindowsOk.after_redoLayer (h : WindowsOk s) : WindowsOk (redoLayer x s) := by
  simp only [redoLayer]
  split
  · exact h
  · refine WindowsOk.after_startLayerFade (WindowsOk.after_leaveReserve ?_)
    exact h.after_modTrack.after_setLayer (.inl (.inl rfl))

/-- R61: the prepared layer becomes LIVE. -/
theorem WindowsOk.after_commitLayer (h : WindowsOk s) : WindowsOk (commitLayer x l s) := by
  simp only [commitLayer]
  refine WindowsOk.after_testFoldWanted (WindowsOk.after_startLayerFade (WindowsOk.after_setLayerEnv ?_))
  exact h.after_purgeRedo.after_modTrack.after_setLayer (.inl (.inl rfl))

theorem WindowsOk.after_adoptLoop (h : WindowsOk s) {st : TrackState} {env : Nat} : WindowsOk (adoptLoop x l st env s) :=
  h.after_modTrack

theorem WindowsOk.after_commitAction (h : WindowsOk s) : WindowsOk (commitAction x s) := by
  simp only [commitAction]
  split
  · exact h
  · split
    · exact h.after_adoptLoop.after_commitLayer
    · exact h.after_commitLayer

theorem WindowsOk.after_muteAction (h : WindowsOk s) : WindowsOk (muteAction x s) := h.after_setTrackState.after_modTrack

theorem WindowsOk.after_unmuteAction (h : WindowsOk s) : WindowsOk (unmuteAction x s) :=
  h.after_setTrackState.after_modTrack.after_shedToBudget

theorem WindowsOk.after_abandonOn (h : WindowsOk s) : WindowsOk (abandonOn x s) := by
  simp only [abandonOn]
  split
  · exact h
  · split
    · exact h.after_abandonFold
    · exact h

theorem WindowsOk.after_clearAction (h : WindowsOk s) : WindowsOk (clearAction x s) := by
  simp only [clearAction]
  exact h.after_purgeAll.after_abandonOn.after_purgeAll.after_purgeRedo.after_purgeAll.after_modTrack.after_modTrack

end

theorem WindowsOk.after_backOff (h : WindowsOk s) {e : Entry} : WindowsOk (backOff e s) := by
  simp only [backOff]
  split
  · exact h.after_tellDrop
  · exact h.same rfl

theorem WindowsOk.after_noHead (h : WindowsOk s) {c : Candidate} : WindowsOk (noHead c s) := by
  simp only [noHead]
  split
  · exact h.after_backOff
  · exact h.after_tellDrop

theorem WindowsOk.after_openCandidate (h : WindowsOk s) (free : (s.layer l).state = .free) {c : Candidate} {g : HeadId} :
    WindowsOk (openCandidate c g l s) := by
  have opened : WindowsOk (if candidateFirst c then openFirst c.track c.source c.takeStation c.backdate g l s
      else openOverdub c.track c.source c.takeStation (subMod (s.track c.track).pos c.backdate (s.track c.track).tlf)
        (prerollWords s c.source c.backdate) g l s) := by
    split
    · exact h.after_openFirst free
    · exact h.after_openOverdub free
  simp only [openCandidate]
  split
  · exact opened.after_raiseAll
  · exact opened

/-- R75: the slot is found before admission, which sheds only, so that it is FREE when the take opens. -/
theorem WindowsOk.after_serveCandidate (h : WindowsOk s) {c : Candidate} : WindowsOk (serveCandidate c s).2 := by
  simp only [serveCandidate]
  split
  · exact h.after_noHead
  · split
    · exact h.after_tellDrop
    · next free =>
      split
      · split
        · exact h.after_tellDrop
        · next admitted =>
          have shed := admitOne_shedOnly _ _ admitted
          exact (h.after_shedOnly shed).after_openCandidate ((shed.layer_state _).trans (freeSlot_state free))
      · exact h.after_tellDrop

theorem WindowsOk.after_serveAll (h : WindowsOk s) {cs : List Candidate} {last : Option Station} :
    WindowsOk (serveAll cs last s).2 := by
  induction cs generalizing last s with
  | nil => exact h
  | cons c rest ih => exact ih h.after_serveCandidate

theorem WindowsOk.after_arbitrate (h : WindowsOk s) {cs : List Candidate} : WindowsOk (arbitrate cs s) := by
  simp only [arbitrate]
  split
  · exact h.after_serveAll
  · exact h.after_serveAll.same rfl

section

variable {e : Entry} {cs : List Candidate}

theorem WindowsOk.after_chainOverdub (h : WindowsOk s) {held : Held} {st : Option Station} :
    WindowsOk (chainOverdub e held st cs s).1 := by
  simp only [chainOverdub]
  split
  · split
    · exact h.after_tellDrop
    · exact h
  · exact h

theorem WindowsOk.after_fireStop (h : WindowsOk s) : WindowsOk (fireStop e cs s).1 := by
  simp only [fireStop]
  split
  · exact h
  · split
    · exact h
    · split
      · exact h.after_stopTake.after_raiseAll.after_chainOverdub
      · exact h.after_stopTake.after_raiseAll

theorem WindowsOk.after_fireAction (h : WindowsOk s) : WindowsOk (fireAction e s) := by
  simp only [fireAction]
  split
  · exact h.after_undoAction.after_raiseAll
  · exact h.after_muteAction.after_raiseAll
  · exact h.after_unmuteAction.after_raiseAll
  · exact h.after_clearAction.after_raiseAll
  · split
    · next admitted => exact (h.after_admitOnto admitted).after_redoLayer.after_raiseAll
    · exact h.after_tellDrop
  · split
    · next admitted => exact (h.after_admitOnto admitted).after_commitAction.after_raiseAll
    · exact h.after_tellDrop
  all_goals exact h

theorem WindowsOk.after_fireEntry (h : WindowsOk s) : WindowsOk (fireEntry e cs s).1 := by
  simp only [fireEntry]
  split
  · exact h.after_tellDrop
  · split
    · exact h
    · exact h
    · exact h.after_fireStop
    · exact h.after_fireAction

end

theorem WindowsOk.after_fireDue (h : WindowsOk s) {n : Nat} {foldFirst : Bool} {cs : List Candidate} :
    WindowsOk (fireDue n foldFirst cs s).1 := by
  induction n generalizing cs s with
  | zero => exact h
  | succ n ih =>
    simp only [fireDue]
    split
    · exact h
    · next rest _ =>
      split
      · have fired {e : Entry} : WindowsOk (fireEntry e cs { s with queue := rest }).1 :=
          (h.same (by rfl)).after_fireEntry
        refine ih ?_
        split
        · exact fired.after_runAttempt
        · exact fired
      · exact h

theorem WindowsOk.after_fireEntries (h : WindowsOk s) {order : FireOrder} : WindowsOk (fireEntries order s) := by
  simp only [fireEntries]
  refine WindowsOk.after_arbitrate ?_
  split
  · exact h.after_fireDue.after_takeLooks
  · exact h.after_fireDue

/-! ### Store Engine (chapter 10) -/

theorem WindowsOk.after_setStore (h : WindowsOk s) {x : Store} : WindowsOk { s with store := x } := h.same rfl

section

variable {op : StoreOp} {failed : Bool} {left : FlashLeft} {faults : PageFaults}

theorem WindowsOk.after_endStopped (h : WindowsOk s) : WindowsOk (endStopped op s) := by
  simp only [endStopped]
  split
  · exact h.after_endRestarted
  · exact h.after_endAborted

theorem WindowsOk.after_markErased (h : WindowsOk s) {k : Nat} : WindowsOk (markErased op k s) := by
  simp only [markErased]
  split
  · exact h
  · exact h.same rfl

theorem WindowsOk.after_leaveSector (h : WindowsOk s) {k : Nat} : WindowsOk (leaveSector k left s) := h.same rfl

theorem WindowsOk.after_programWords (h : WindowsOk s) {k : Nat} {ws : List (Nat × Word)} :
    WindowsOk (programWords k ws s) := h.same rfl

theorem WindowsOk.after_setProgress (h : WindowsOk s) {n : Nat} : WindowsOk (setProgress n s) := h.same rfl

theorem WindowsOk.after_setJob (h : WindowsOk s) {j : StoreJob} : WindowsOk (setJob j s) := h.same rfl

theorem WindowsOk.after_setMark (h : WindowsOk s) {k : Nat} : WindowsOk (setMark k s) := h.same rfl

theorem WindowsOk.after_clearMarks (h : WindowsOk s) {k n : Nat} : WindowsOk (clearMarks k n s) := h.same rfl

theorem WindowsOk.after_eraseSector (h : WindowsOk s) {k : Nat} : WindowsOk (eraseSector k s) := h.same rfl

theorem WindowsOk.after_eraseAdvance (h : WindowsOk s) {first count : Nat} :
    WindowsOk (eraseAdvance op first count failed left s) := by
  simp only [eraseAdvance]
  split
  · split
    · exact h.after_leaveSector.after_clearMarks.after_endRestarted
    · exact h.after_leaveSector.after_clearMarks.after_endStoreOp
  · have erased {k n : Nat} : WindowsOk (setProgress n (markErased op k (eraseSector k s))) :=
      h.after_eraseSector.after_markErased.after_setProgress
    split
    · exact erased.after_endStopped
    · split
      · exact erased.after_endStoreOp
      · exact erased

theorem WindowsOk.after_blankAdvance (h : WindowsOk s) {first count : Nat} : WindowsOk (blankAdvance op first count s) := by
  simp only [blankAdvance]
  split
  · split
    · exact h.after_setMark.after_setProgress.after_endStoreUnstated
    · exact h.after_setMark.after_setProgress
  · exact h.after_clearMarks.after_endStoreOp

theorem WindowsOk.after_sumAdvance (h : WindowsOk s) {first count : Nat} {acc : BitVec 16} :
    WindowsOk (sumAdvance op first count acc s) := by
  simp only [sumAdvance]
  split
  · exact h.after_setProgress.after_setJob.after_endStoreOp
  · exact h.after_setProgress.after_setJob

theorem WindowsOk.after_releaseCopy (h : WindowsOk s) : WindowsOk (releaseCopy s) := h.same rfl

theorem WindowsOk.after_releaseAdvance (h : WindowsOk s) {floor : Nat} :
    WindowsOk (releaseAdvance op floor failed left s) := by
  simp only [releaseAdvance]
  split
  · exact h
  · split
    · exact h.after_leaveSector.after_clearMarks.after_endStoreOp
    · split
      · exact h.after_eraseSector.after_setMark.after_setProgress.after_releaseCopy
      · exact h.after_eraseSector.after_setMark.after_setProgress

/-- FLASH_SECTOR_DONE. -/
theorem WindowsOk.after_sectorDone (h : WindowsOk s) : WindowsOk (sectorDone failed left s) := by
  simp only [sectorDone]
  split
  · exact h
  · split
    · exact h.after_eraseAdvance
    · exact h.after_blankAdvance
    · exact h.after_sumAdvance
    · exact h.after_releaseAdvance
    · exact h

theorem WindowsOk.after_saveAdvancePage (h : WindowsOk s) {first total page : Nat} {header held : List Word} {sum : Word}
    {bad : List Nat} : WindowsOk (saveAdvancePage op l first header total sum page bad held faults s) := by
  simp only [saveAdvancePage]
  split
  · exact h.after_programWords.after_setProgress.after_setJob.after_endStopped
  · exact h.after_programWords.after_setProgress.after_setJob

theorem WindowsOk.after_saveFinish (h : WindowsOk s) {first total : Nat} {header : List Word} {sum : Word}
    {bad : List Nat} : WindowsOk (saveFinish op l first header total sum bad faults s) := by
  simp only [saveFinish]
  split
  · exact h.after_programWords.after_setJob.after_endStopped
  · exact h.after_programWords.after_setJob

theorem WindowsOk.after_saveReadBack (h : WindowsOk s) {first total page : Nat} {header : List Word} {sum : Word}
    {bad : List Nat} : WindowsOk (saveReadBack op l first header total sum page bad s) := by
  simp only [saveReadBack]
  split
  · exact h.after_endStopped
  · split
    · exact h.after_endStoreOp
    · split
      · exact h.after_endStoreOp
      · exact h.after_setJob

/-- FLASH_PAGE_DONE. -/
theorem WindowsOk.after_pageDone (h : WindowsOk s) : WindowsOk (pageDone faults s) := by
  simp only [pageDone]
  split
  · exact h
  · split
    · exact h.after_saveAdvancePage
    · exact h.after_saveFinish
    · exact h.after_saveReadBack
    · exact h

theorem WindowsOk.after_verifyAdvance (h : WindowsOk s) {first total differ firstDiff words : Nat} :
    WindowsOk (verifyAdvance op l first total differ firstDiff words s) := by
  simp only [verifyAdvance]
  split
  · split
    · exact h.after_setProgress.after_setJob.after_endStoreUnstated
    · exact h.after_setProgress.after_setJob.after_endStoreOp
  · exact h.after_setProgress.after_setJob

/-- VERIFY_PROGRESS. -/
theorem WindowsOk.after_verifyDone (h : WindowsOk s) {words : Nat} : WindowsOk (verifyDone words s) := by
  simp only [verifyDone]
  split
  · exact h
  · split
    · exact h.after_verifyAdvance
    · exact h

theorem WindowsOk.after_copyWords (h : WindowsOk s) {first n i : Nat} {acc : Word} :
    WindowsOk (copyWords first l n i acc s).2 := by
  induction n generalizing i acc s with
  | zero => exact h
  | succ n ih => exact ih h.after_storeLayerWord

theorem WindowsOk.after_loadAdvance (h : WindowsOk s) {first total words : Nat} {sum check : Word} :
    WindowsOk (loadAdvance op l first total sum check words s) := by
  simp only [loadAdvance]
  split
  · split
    · exact h.after_copyWords.after_setProgress.after_setJob.after_endStoreOp
    · exact h.after_copyWords.after_setProgress.after_setJob.after_endStoreUnstated.after_purge
  · exact h.after_copyWords.after_setProgress.after_setJob

/-- LOAD_COPY_DONE. -/
theorem WindowsOk.after_copyDone (h : WindowsOk s) {words : Nat} : WindowsOk (copyDone words s) := by
  simp only [copyDone]
  split
  · exact h
  · split
    · exact h.after_loadAdvance
    · exact h

theorem WindowsOk.after_optionEnd (h : WindowsOk s) {r : State → State} (hr : WindowsOk (r s)) :
    WindowsOk (optionEnd op r s) := by
  simp only [optionEnd]
  split
  · exact hr
  · split
    · exact h.after_endRestarted
    · exact hr

theorem WindowsOk.after_optionDone (h : WindowsOk s) : WindowsOk (optionDone op s) := by
  simp only [optionDone]
  split
  · exact h.after_endStoreOp
  · exact h.after_endStoreUnstated

theorem WindowsOk.after_rewriteOption (h : WindowsOk s) {ws : List (Nat × Word)} {broken : Bool} :
    WindowsOk (rewriteOption ws broken s) := h.same rfl

/-- OPTION_REWRITE_DONE. -/
theorem WindowsOk.after_rewriteDone (h : WindowsOk s) : WindowsOk (rewriteDone failed left faults s) := by
  simp only [rewriteDone]
  split
  · exact h
  · split
    · simp only [optionAdvance]
      split
      · have cut {st : Store} : WindowsOk { leaveSector Config.optionSector left s with store := st } := h.same rfl
        exact cut.after_optionEnd cut.after_endStoreOp
      · split
        · exact h.after_rewriteOption.after_optionEnd h.after_rewriteOption.after_endStoreOp
        · exact h.after_rewriteOption.after_optionEnd h.after_rewriteOption.after_optionDone
    · exact h

end

/-! ### Loads and start-up (R170, R177) -/

theorem loadCheck_free {first : Nat} {x : TrackId} {hd : Header} (e : loadCheck s first x = .ok (hd, l)) :
    (s.layer l).state = .free := by
  simp only [loadCheck] at e
  split at e
  · cases e
  · iterate 4 (split at e; · cases e)
    split at e
    · cases e
    · next free =>
      split at e
      · cases e
      · cases e
        exact freeSlot_state free

theorem raisePosition_layers (g : Tempo) (s : State) : (raisePosition g s).layers = s.layers := by
  simp only [raisePosition]
  repeat' split
  all_goals rfl

/-- A record and its blocks in a FREE slot, which a track then names. -/
theorem WindowsOk.after_newLayer (h : WindowsOk s) (free : (s.layer l).state = .free) {y : Layer} {c : Nat} {x : TrackId}
    {f : Track → Track} : WindowsOk (((allocate l c (s.setLayer l y)).getD (s.setLayer l y)).modTrack x f) :=
  (h.after_setLayer_unwatched (h.not_openOn_free free)).after_allocate_or_keep.after_modTrack

theorem WindowsOk.after_loadBegin (h : WindowsOk s) (free : (s.layer l).state = .free) {x : TrackId} {hd : Header} :
    WindowsOk (loadBegin x hd l s) := by
  simp only [loadBegin]
  split
  · refine h.after_enterGrid.after_newLayer ?_
    simp only [State.layer, enterGrid, raisePosition_layers]
    exact free
  · exact h.after_newLayer free

theorem WindowsOk.after_startupEntry (h : WindowsOk s) {e : TrackId × Nat} : WindowsOk (startupEntry e s).2 := by
  simp only [startupEntry]
  split
  · exact h
  · next hd _ ok =>
    have begun := h.after_loadBegin (loadCheck_free ok) (x := e.1) (hd := hd)
    split
    · exact begun.after_copyWords
    · exact begun.after_copyWords.after_purge

theorem WindowsOk.after_startupEntries (h : WindowsOk s) {es : List (TrackId × Nat)} :
    WindowsOk (startupEntries es s).2 := by
  induction es generalizing s with
  | nil => exact h
  | cons e rest ih => exact ih h.after_startupEntry

theorem WindowsOk.after_loadOption (h : WindowsOk s) : WindowsOk (loadOption s) := by
  simp only [loadOption]
  split <;> exact h.same rfl

theorem WindowsOk.after_runStartup (h : WindowsOk s) : WindowsOk (runStartup s) := by
  simp only [runStartup]
  split <;> exact h.after_loadOption.after_startupEntries.same rfl

theorem WindowsOk.after_startupWhenReady (h : WindowsOk s) : WindowsOk (startupWhenReady s) := by
  simp only [startupWhenReady]
  split
  · exact h.after_runStartup
  · exact h

/-! ### Supply events (chapter 7) -/

theorem WindowsOk.after_escalateIfOver (h : WindowsOk s) : WindowsOk (escalateIfOver s) := by
  simp only [escalateIfOver]
  split
  · exact h.after_escalate
  · exact h

theorem WindowsOk.after_pauseForBand (h : WindowsOk s) : WindowsOk (pauseForBand s) := by
  simp only [pauseForBand]
  split
  · exact h.after_pauseFold
  · exact h.after_pauseFold
  · exact h
  · exact h

theorem WindowsOk.after_changeBand (h : WindowsOk s) {b : Band} : WindowsOk (changeBand b s) :=
  (h.same (by rfl)).after_raiseAll.after_pauseForBand.after_escalateIfOver

theorem WindowsOk.after_readingIfDue (h : WindowsOk s) : WindowsOk (readingIfDue s) := by
  simp only [readingIfDue]
  split
  · simp only [takeReading]
    split
    · exact h.same rfl
    · exact (h.same (by rfl)).after_changeBand
  · exact h

theorem WindowsOk.after_applyBands (h : WindowsOk s) : WindowsOk (applyBands s) :=
  (h.same (by rfl)).after_escalateIfOver

theorem WindowsOk.after_bandsIfDue (h : WindowsOk s) : WindowsOk (bandsIfDue s) := by
  simp only [bandsIfDue]
  split
  · exact h.after_applyBands
  · exact h

theorem WindowsOk.after_supplyEvents (h : WindowsOk s) {readingFirst : Bool} : WindowsOk (supplyEvents readingFirst s) := by
  simp only [supplyEvents]
  split
  · exact h.after_readingIfDue.after_bandsIfDue
  · exact h.after_bandsIfDue.after_readingIfDue

/-! ### The frame clock -/

theorem WindowsOk.after_finish (h : WindowsOk s) : WindowsOk (finish s) := by
  simp only [finish, formFrame]
  split
  · exact h.after_runAttempt.after_mixFrame
  · exact h.after_runAttempt

theorem WindowsOk.after_beatEvent (h : WindowsOk s) {foldFirst : Bool} : WindowsOk (beatEvent foldFirst s) := by
  simp only [beatEvent]
  split
  · exact h
  · next g _ =>
    split
    · have raised : WindowsOk (raisePosition g { s with grid := { s.grid with beatDue := false } }) :=
        (h.same (by rfl)).after_raisePosition
      split
      · split
        · exact raised.after_resumeFold.after_attemptFold.after_restoreShed
        · exact raised.after_resumeFold.after_restoreShed.after_attemptFold
      · exact raised
    · exact h

theorem WindowsOk.after_commitLoaded (h : WindowsOk s) {x : TrackId} : WindowsOk (commitLoaded s x) := by
  simp only [commitLoaded]
  split
  · exact h
  · exact h.after_adoptLoop.after_commitLayer

theorem WindowsOk.after_restartGrid (h : WindowsOk s) : WindowsOk (restartGrid s) := by
  simp only [restartGrid]
  split
  · exact h
  · exact h.after_enterGrid

theorem WindowsOk.after_startupEvent (h : WindowsOk s) : WindowsOk (startupEvent s) := by
  have committed := h.after_restartGrid.after_foldl (fun x _ h => h.after_commitLoaded (x := x)) trackIds
  simp only [startupEvent]
  split
  · exact committed.after_setStore
  · exact h

theorem WindowsOk.after_entryEvent (h : WindowsOk s) {order : FireOrder} : WindowsOk (entryEvent order s) := by
  simp only [entryEvent]
  split
  · exact h.after_fireEntries
  · exact h

theorem WindowsOk.after_shortEvent (h : WindowsOk s) {g : HeadId} : WindowsOk (shortEvent g s) :=
  h.after_takeLook.after_shortClose

theorem WindowsOk.after_fadeEvent (h : WindowsOk s) {which : FadeSel} : WindowsOk (fadeEvent which s) :=
  h.after_advanceFadesIfDue.after_endFade

/-- The events in the order of `settle`. -/
theorem WindowsOk.after_settle (h : WindowsOk s) : WindowsOk (settle s) := by
  have entries := h.after_startupEvent.after_runAttempt.after_beatEvent (foldFirst := false)
    |>.after_runAttempt.after_entryEvent (order := ⟨false, false⟩) |>.after_runAttempt
  have closes := entries.after_limitClose (g := 0) |>.after_limitClose (g := 1)
    |>.after_runAttempt.after_shortEvent (g := 0) |>.after_shortEvent (g := 1) |>.after_runAttempt
  have passes := closes.after_endPass (g := 0) (foldFirst := false) |>.after_endPass (g := 1) (foldFirst := false)
    |>.after_runAttempt
  have settled := passes.after_advanceFoldIfDue.after_runAttempt.after_advanceFadesIfDue.after_endAllFades
    |>.after_supplyEvents (readingFirst := false) |>.after_runAttempt
  simp only [settle]
  split
  · exact settled.after_mixFrame
  · exact settled

theorem WindowsOk.after_tickReading (h : WindowsOk s) : WindowsOk (tickReading s) := by
  simp only [tickReading]
  split <;> exact h.same rfl

theorem WindowsOk.after_tickStartup (h : WindowsOk s) : WindowsOk (tickStartup s) := by
  simp only [tickStartup]
  split
  · exact h.same rfl
  · exact h

theorem WindowsOk.after_tickBands (h : WindowsOk s) {late : Bool} : WindowsOk (tickBands late s) := by
  simp only [tickBands]
  split
  · split
    · exact h.same rfl
    · exact (h.same (by rfl)).after_applyBands
  · exact h

theorem WindowsOk.after_tickFades (h : WindowsOk s) {late : Bool} : WindowsOk (tickFades late s) := by
  simp only [tickFades]
  split
  · exact h
  · exact h.after_advanceFades

theorem WindowsOk.after_tickFold (h : WindowsOk s) {late : Bool} : WindowsOk (tickFold late s) := by
  simp only [tickFold]
  split
  · split
    · exact h.same rfl
    · exact h.after_advanceFold
  · exact h

theorem WindowsOk.after_shiftLane (h : WindowsOk s) : WindowsOk (shiftLane s) := h.same rfl

theorem WindowsOk.after_writeRings (h : WindowsOk s) {inputs : Vector Sample 8} : WindowsOk (writeRings inputs s) :=
  h.same rfl

theorem WindowsOk.after_moveTracks (h : WindowsOk s) : WindowsOk (moveTracks s) := h.same rfl

theorem WindowsOk.after_countDown (h : WindowsOk s) : WindowsOk (countDown s) := h.same rfl

theorem WindowsOk.after_openFades (h : WindowsOk s) : WindowsOk (openFades s) := h.same rfl

theorem WindowsOk.after_frameBoundary (h : WindowsOk s) {inputs : Vector Sample 8} {late : Late} :
    WindowsOk (frameBoundary inputs late s) := by
  have written := h.after_settle.after_shiftLane.after_advanceGrid.after_foldl
    (fun g _ h => h.after_headWrite (inputs := inputs) (g := g)) headIds
  simp only [frameBoundary]
  split
  · exact h
  · exact written.after_writeRings.after_moveTracks.after_growTakes.after_countDown.after_tickReading.after_tickStartup
      |>.after_openFades.after_tickBands.after_tickFades.after_tickFold.after_finish

/-! ### Window Engine (chapter 9) -/

section

variable {st : Station}

/-- R154: only a LIVE, REDO or PREPARING layer gets a window. -/
theorem WindowsOk.after_doOpenWindow (h : WindowsOk s) {n d : Byte} {ws we : Word} :
    WindowsOk (doOpenWindow st n ws we d s).2 := by
  have opened (shown : Shown (s.layer (layerOf n)).state) {start stop pointer : Nat} {dir : Direction} {x : Word} :
      WindowsOk (s.setWindow st ⟨.opened, some (layerOf n), start, stop, dir, pointer, x⟩) :=
    h.after_setWindow fun _ => ⟨_, rfl, shown⟩
  simp only [doOpenWindow]
  split
  case h_1 | h_2 | h_3 => exact h
  all_goals
    next state =>
    split
    · exact h
    · split
      · exact h
      · exact opened (by simp [Shown, state])

/-- R156: the pointer and the holder step, the layer stays. -/
theorem readSteps_layer (s : State) (l : LayerId) (k : Nat) (w : Window) :
    (readSteps s l k w).2.state = w.state ∧ (readSteps s l k w).2.layer = w.layer := by
  induction k generalizing w with
  | zero => exact ⟨rfl, rfl⟩
  | succ k ih => exact ih _

theorem WindowsOk.after_doReadData (h : WindowsOk s) {k : Byte} : WindowsOk (doReadData st k s).2 := by
  simp only [doReadData]
  split
  · next l _ _ =>
    obtain ⟨state, layer⟩ := readSteps_layer s l k.toNat (s.window st)
    refine h.after_setWindow fun isOpen => ?_
    rw [layer]
    exact h st (state.symm.trans isOpen)
  · exact h
  · exact h

/-- R157: only the pointer of the window steps. -/
theorem writeSteps_layer (l : LayerId) (ws : List Word) (w : Window) (s : State) :
    (writeSteps l ws w s).1.state = w.state ∧ (writeSteps l ws w s).1.layer = w.layer := by
  induction ws generalizing w s with
  | nil => exact ⟨rfl, rfl⟩
  | cons x rest ih => exact ih _ _

/-- R157: a write keeps the windows and the state of every layer. -/
theorem writeSteps_shown (l : LayerId) (ws : List Word) (w : Window) (s : State) :
    (writeSteps l ws w s).2.windows = s.windows ∧ ∀ m, ((writeSteps l ws w s).2.layer m).state = (s.layer m).state := by
  induction ws generalizing w s with
  | nil => exact ⟨rfl, fun _ => rfl⟩
  | cons x rest ih =>
    obtain ⟨windows, states⟩ := ih { w with pointer := stepPointer w } (storeLayerWord l w.pointer (narrowWord x) s)
    exact ⟨windows.trans (storeLayerWord_shown ..).1, fun m => (states m).trans ((storeLayerWord_shown ..).2 m)⟩

theorem WindowsOk.after_doWriteData (h : WindowsOk s) {ws : List Word} : WindowsOk (doWriteData st ws s).2 := by
  simp only [doWriteData]
  split
  · next l _ _ =>
    split
    · exact h
    · split
      · exact h
      · obtain ⟨state, layer⟩ := writeSteps_layer l ws (s.window st) s
        obtain ⟨windows, states⟩ := writeSteps_shown l ws (s.window st) s
        refine (h.after_states windows states).after_setWindow fun isOpen => ?_
        obtain ⟨m, on, shown⟩ := h st (state.symm.trans isOpen)
        exact ⟨m, layer.trans on, by rw [states]; exact shown⟩
  · exact h
  · exact h

/-- R159: a CLOSED window needs no layer. -/
theorem WindowsOk.after_doCloseWindow (h : WindowsOk s) : WindowsOk (doCloseWindow st s).2 :=
  h.after_setWindow fun isOpen => nomatch isOpen

/-! ### The other requests (R183 step 6) -/

theorem WindowsOk.after_doSetGrid (h : WindowsOk s) {fpb : BitVec 16} {bpb cb : Byte} :
    WindowsOk (doSetGrid fpb bpb cb s).2 := by
  simp only [doSetGrid, dropIfSet]
  split
  · exact h
  · split
    · exact h.after_dropAllGrid.after_enterGrid
    · exact h.after_enterGrid

theorem WindowsOk.after_doClearGrid (h : WindowsOk s) : WindowsOk (doClearGrid s).2 := by
  simp only [doClearGrid]
  split
  · exact h
  · split
    · exact h
    · exact h.after_dropAllGrid.same rfl

theorem WindowsOk.after_actRequest (h : WindowsOk s) {x : TrackId} {a : Action} {q : Quantize} {src : Option SourceId}
    {chain : Bool} : WindowsOk (actRequest st x a q src chain s).2 := by
  simp only [actRequest]
  split
  · exact h
  · split
    · exact h.same rfl
    · split
      · exact h
      · split
        · exact h.same rfl
        · exact (h.same (by rfl)).after_tellDrop

theorem WindowsOk.after_doAct (h : WindowsOk s) {track action quantize srcStation srcChannel chain : Byte} :
    WindowsOk (doAct st track action quantize srcStation srcChannel chain s).2 := by
  simp only [doAct]
  split
  · exact h.after_actRequest
  · exact h

theorem WindowsOk.after_doCancel (h : WindowsOk s) {track : Byte} : WindowsOk (doCancel st track s).2 := by
  simp only [doCancel, cancelRequest]
  split
  · exact h
  · split
    · exact h.same rfl
    · exact (h.same (by rfl)).after_tellDrop

theorem WindowsOk.after_doSetTrack (h : WindowsOk s) {track bus rank : Byte} {gain : BitVec 24} :
    WindowsOk (doSetTrack track gain bus rank s).2 := by
  simp only [doSetTrack]
  split
  · exact h
  · exact h.after_modTrack

theorem WindowsOk.after_doUnguard (h : WindowsOk s) {track : Byte} : WindowsOk (doUnguard track s).2 := by
  simp only [doUnguard]
  split
  · exact h
  · exact h.after_modTrack

theorem WindowsOk.after_restartIfSource (h : WindowsOk s) {changed folding : Bool} :
    WindowsOk (restartIfSource changed folding s) := by
  simp only [restartIfSource]
  split
  · exact h.after_restartFold
  · exact h

theorem WindowsOk.after_doSetLayer (h : WindowsOk s) {n pinned : Byte} {gain : BitVec 24} :
    WindowsOk (doSetLayer n gain pinned s).2 := by
  simp only [doSetLayer]
  split
  case h_1 | h_2 => exact h
  all_goals
    split
    · exact h
    · exact (h.after_modLayer (by intro; rfl)).after_restartIfSource

theorem WindowsOk.after_doRotate (h : WindowsOk s) {n : Byte} {d : Word} : WindowsOk (doRotate n d s).2 := by
  simp only [doRotate]
  split
  case h_1 | h_2 | h_3 => exact h
  all_goals
    split
    · exact h
    · exact (h.after_modLayer (by intro; rfl)).after_restartIfSource

theorem createTest_free {x : TrackId} {bars : Byte} (e : createTest s x bars = .ok l) : (s.layer l).state = .free := by
  simp only [createTest] at e
  iterate 4 (split at e; · cases e)
  split at e
  · cases e
  · next free =>
    split at e
    · cases e
    · cases e
      exact freeSlot_state free

theorem WindowsOk.after_doCreateLayer (h : WindowsOk s) {track bars : Byte} : WindowsOk (doCreateLayer track bars s).2 := by
  simp only [doCreateLayer]
  split
  · exact h
  · next ok => exact h.after_newLayer (createTest_free ok)

theorem WindowsOk.after_storeRequest (h : WindowsOk s) {writes : Bool} {own : Option Code} {go : State → State}
    (hg : WindowsOk (go s)) : WindowsOk (storeRequest writes own go s).2 := by
  simp only [storeRequest]
  split
  · exact h
  · split
    · exact h
    · exact hg

theorem WindowsOk.after_startOp (h : WindowsOk s) {j : StoreJob} : WindowsOk (startOp st j s) := h.same rfl

theorem WindowsOk.after_loadStart (h : WindowsOk s) {x : TrackId} {first : Nat} : WindowsOk (loadStart st x first s) := by
  simp only [loadStart]
  split
  · exact h.same rfl
  · next ok => exact (h.after_loadBegin (loadCheck_free ok)).after_startOp

theorem WindowsOk.after_releaseStart (h : WindowsOk s) : WindowsOk (releaseStart st s) := by
  simp only [releaseStart]
  split
  · exact h.after_startOp.after_releaseCopy
  · exact h.after_startOp

theorem WindowsOk.after_doAbortStore (h : WindowsOk s) : WindowsOk (doAbortStore s).2 := by
  have marked : WindowsOk (setAbort s) := h.same rfl
  simp only [doAbortStore]
  split
  · exact h
  · split
    case h_1 | h_2 | h_3 => exact h
    case h_4 | h_5 => exact marked
    case h_6 | h_7 | h_8 => exact marked.after_endAborted
    case h_9 => exact marked.after_purge

theorem WindowsOk.after_serveRequest (h : WindowsOk s) (i : Instr) : WindowsOk (serveRequest i s).2 := by
  cases i
  case setGrid => exact h.after_doSetGrid
  case clearGrid => exact h.after_doClearGrid
  case act => exact h.after_doAct
  case cancel => exact h.after_doCancel
  case setTrack => exact h.after_doSetTrack
  case guard => exact h.after_modTrack
  case unguard => exact h.after_doUnguard
  case setLayer => exact h.after_doSetLayer
  case rotate => exact h.after_doRotate
  case createLayer => exact h.after_doCreateLayer
  case openWindow => exact h.after_doOpenWindow
  case writeData => exact h.after_doWriteData
  case readData => exact h.after_doReadData
  case closeWindow => exact h.after_doCloseWindow
  case erase | blankCheck | verify | sum => exact h.after_storeRequest h.after_startOp
  case save => exact h.after_storeRequest h.after_clearMarks.after_startOp
  case load => exact h.after_storeRequest h.after_loadStart
  case protect | setStartup => exact h.after_storeRequest (h.same rfl)
  case release => exact h.after_storeRequest h.after_releaseStart
  case abortStore => exact h.after_doAbortStore
  case setCapture | setFade | setBands | setFold | setRouting | setLowMark | setBus | readEvents | readClips =>
    exact h.same rfl
  all_goals exact h

/-! ### Station ports (chapter 11) -/

theorem WindowsOk.after_setPort (h : WindowsOk s) {p : Port} : WindowsOk (s.setPort st p) := h.same rfl

theorem WindowsOk.after_request (h : WindowsOk s) {i : Instr} : WindowsOk (request st i (serveRequest i) s) := by
  simp only [request, checked]
  split
  · exact h
  · split
    · refine WindowsOk.after_finish (WindowsOk.after_setPort ?_)
      split
      · exact h
      · exact h.after_serveRequest i
    · exact h.after_setPort

theorem windowsOk_of_closed (closed : ∀ st, s.window st = Window.reset) : WindowsOk s := fun st isOpen => by
  rw [closed] at isOpen
  exact nomatch isOpen

/-- R189: a RESTART closes every window. -/
theorem restartFrom_windowsOk (st : Station) (s : State) : WindowsOk (restartFrom st s) :=
  windowsOk_of_closed fun v => Vector.getElem_replicate v.isLt

theorem WindowsOk.after_restartRequest (h : WindowsOk s) : WindowsOk (restartRequest st s) := by
  simp only [restartRequest]
  split
  · exact h
  · split
    · split
      · exact h.after_setPort.after_finish
      · exact (restartFrom_windowsOk st s).after_setPort.after_finish
    · exact h.after_setPort

theorem WindowsOk.after_receivePacket (h : WindowsOk s) {kind len check : Byte} {body : List Byte} :
    WindowsOk (receivePacket st kind len body check s) := by
  simp only [receivePacket]
  split
  · split
    · split <;> exact h.after_setPort
    · exact h.after_setPort
  · exact h

theorem WindowsOk.after_serve (h : WindowsOk s) (i : Instr) : WindowsOk (serve st i s).2 := by
  simp only [serve]
  split
  · exact restartFrom_windowsOk st s
  · exact h.after_serveRequest _

theorem WindowsOk.after_placeExecuted (h : WindowsOk s) : WindowsOk (placeExecuted st s) := by
  simp only [placeExecuted]
  split
  · exact h
  · split
    · exact h
    · exact h.after_setPort
    · exact (h.after_serve _).after_setPort.after_finish

end

theorem WindowsOk.after_endReset (h : WindowsOk s) {detectorLast : Bool} : WindowsOk (endReset detectorLast s) := by
  simp only [endReset]
  split
  · exact h.same rfl
  · exact h

/-! ### Every command -/

theorem WindowsOk.after_exec (h : WindowsOk s) (i : Instr) : ∃ t, exec i s = .next t ∧ WindowsOk t := by
  cases requests : requester i with
  | some st =>
    by_cases restarts : i = .restart st
    · subst restarts
      exact ⟨_, rfl, h.after_restartRequest⟩
    · exact ⟨_, Proofs.Folding.exec_request requests restarts s, h.after_request⟩
  | none =>
    cases i
    case powerReset | brownoutReset | pinReset => exact ⟨_, rfl, windowsOk_of_closed Proofs.ColdReset.coldReset_window⟩
    case resetEnd => exact ⟨_, rfl, h.after_endReset⟩
    case csFall | csRise | replyDelivered => exact ⟨_, rfl, h.after_setPort⟩
    case packetReceived => exact ⟨_, rfl, h.after_receivePacket⟩
    case replyPlaced => exact ⟨_, rfl, h.after_placeExecuted⟩
    case frameBoundary => exact ⟨_, rfl, h.after_frameBoundary⟩
    case startup => exact ⟨_, rfl, h.after_startupWhenReady.after_finish⟩
    case startupCommit => exact ⟨_, rfl, h.after_startupEvent.after_finish⟩
    case beatBoundary => exact ⟨_, rfl, h.after_beatEvent.after_finish⟩
    case entryFire => exact ⟨_, rfl, h.after_entryEvent.after_finish⟩
    case takeLimitClose => exact ⟨_, rfl, h.after_limitClose.after_finish⟩
    case shortTakeClose => exact ⟨_, rfl, h.after_shortEvent.after_finish⟩
    case passEnd => exact ⟨_, rfl, h.after_endPass.after_finish⟩
    case fadeEnd => exact ⟨_, rfl, h.after_fadeEvent.after_finish⟩
    case foldComplete => exact ⟨_, rfl, h.after_advanceFoldIfDue.after_finish⟩
    case supplyReading => exact ⟨_, rfl, (h.same (by rfl)).after_supplyEvents.after_finish⟩
    case flashSectorDone => exact ⟨_, rfl, h.after_sectorDone.after_finish⟩
    case flashPageDone => exact ⟨_, rfl, h.after_pageDone.after_finish⟩
    case verifyProgress => exact ⟨_, rfl, h.after_verifyDone.after_finish⟩
    case loadCopyDone => exact ⟨_, rfl, h.after_copyDone.after_finish⟩
    case optionRewriteDone => exact ⟨_, rfl, h.after_rewriteDone.after_finish⟩
    all_goals exact nomatch requests

end

end Sys2Proof.Machine

/-! SUPPORT. Chapter 9: the pointer, and what the four window requests do of a request that their port takes; with them the
statements about the requests. -/

namespace Sys2Proof.Proofs.Windows

open Sys2Proof Sys2Proof.Machine Sys2Proof.Proofs.Folding

/-! ### The law of the windows (R153) -/

/-- Settles O56: a step runs one command on the rest of the queue, and every command keeps the law. -/
theorem openWindowsNameLayers : Obligations.OpenWindowsNameLayers := by
  intro s t h e
  simp only [step] at e
  split at e
  case h_1 =>
    cases e
    exact h
  case h_2 c rest _ =>
    obtain ⟨u, next, kept⟩ := (h.same (t := { s with pending := rest }) rfl).after_exec c
    rw [next] at e
    cases e
    exact kept

/-- A part out of start-up whose layer 0 is PREPARING and being filled by a LOAD, with the window of station 2 OPEN on its
words 2 to 5, at the last one, the word 9 in its holder. -/
def windowOnLoad : State :=
  let filled : Layer := { Layer.free with state := .preparing, length := 8, spanLen := 8, extents := [⟨0, true⟩] }
  let s := { State.reset with
    store := { Store.reset with
      engine := .busy, phase := .over, running := some ⟨.load 0 0 8 0#32 0#32, 0, 0, false, false⟩ }
    pool := { Pool.reset with free := [] }
    pending := [.abortStore 0] }
  (s.setLayer 0 filled).setWindow 2 ⟨.opened, some 0, 2, 5, .forward, 5, 9#32⟩

/-- The premise of O56 is met, and a step that purges the layer takes its window out of OPEN (R160). -/
theorem step_windowOnLoad : ∃ t, step windowOnLoad = .next t ∧ (t.layer 0).state = .free ∧ (t.window 2).state = .lost ∧
    WindowsOk t := by
  have law : WindowsOk windowOnLoad := by
    unfold WindowsOk
    decide +kernel
  exact ⟨_, rfl, by decide +kernel, by decide +kernel, openWindowsNameLayers windowOnLoad _ law rfl⟩

/-! ### What a window request leaves due -/

theorem keepsDue_trans {s t u : State} (h : KeepsDue s t) (g : KeepsDue t u) : KeepsDue s u := by
  obtain ⟨dues, attempt, frame⟩ := h
  obtain ⟨dues', attempt', frame'⟩ := g
  exact ⟨dues'.trans dues, attempt'.trans attempt, frame'.trans frame⟩

theorem keepsDue_setWindow (s : State) (st : Station) (w : Window) : KeepsDue s (s.setWindow st w) := ⟨rfl, rfl, rfl⟩

/-- R99: a stored word clears a blank mark at most; the extent list keeps its length. -/
theorem keepsDue_storeLayerWord (l : LayerId) (i : Nat) (w : Word) (s : State) : KeepsDue s (storeLayerWord l i w s) := by
  simp only [storeLayerWord]
  split
  · exact .refl s
  · split
    · exact ⟨setLayer_dues s l _ (List.length_set ..) rfl rfl rfl, rfl, rfl⟩
    · exact ⟨rfl, rfl, rfl⟩

theorem keepsDue_writeSteps (l : LayerId) (ws : List Word) (w : Window) (s : State) :
    KeepsDue s (writeSteps l ws w s).2 := by
  induction ws generalizing w s with
  | nil => exact .refl s
  | cons x rest ih => exact keepsDue_trans (keepsDue_storeLayerWord l w.pointer (narrowWord x) s) (ih _ _)

/-- A request that its port takes in a settled state, and that leaves what is due as it is. -/
theorem exec_taken {i : Instr} {st : Station} {s u : State} {r : Reply} (hs : Settled s) (ht : Taken i st s)
    (own : requester i = some st) (other : i ≠ .restart st) (served : serveRequest i s = (r, u)) (kept : KeepsDue s u) :
    exec i s = .next (holdReply st r u) := by
  obtain ⟨dues, attempt, frame⟩ := kept
  rw [exec_request own other, request_same _ hs ht served dues attempt frame]

section

variable {st : Station} {s : State} {l : LayerId}

/-! ### OPEN WINDOW (R154) -/

section

variable {n d : Byte} {ws we : Word}

theorem doOpenWindow_state (h : (s.layer (layerOf n)).state = .free ∨ (s.layer (layerOf n)).state = .recording ∨
    (s.layer (layerOf n)).state = .building) : doOpenWindow st n ws we d s = (⟨.state, []⟩, s) := by
  rcases h with h | h | h <;> simp only [doOpenWindow, h, plain]

theorem doOpenWindow_filling (h : (s.layer (layerOf n)).state = .preparing) (filling : loadFilling s (layerOf n) = true) :
    doOpenWindow st n ws we d s = (⟨.retry, []⟩, s) := by
  simp only [doOpenWindow, h, filling, and_self, if_true, plain]

/-- A layer that passes the tests of its state is left to the test of the range. -/
theorem doOpenWindow_range (h : ((s.layer (layerOf n)).state = .preparing ∧ loadFilling s (layerOf n) = false) ∨
    (s.layer (layerOf n)).state = .live ∨ (s.layer (layerOf n)).state = .redo) :
    doOpenWindow st n ws we d s =
      if (s.layer (layerOf n)).length ≤ we.toNat ∨ we.toNat < ws.toNat then (⟨.param, []⟩, s)
      else (⟨.ok, leBytes 4 (s.layer (layerOf n)).length⟩, s.setWindow st
        { state := .opened, layer := some (layerOf n), start := ws.toNat, stop := we.toNat,
          direction := (Direction.ofByte d).getD .forward, pointer := ws.toNat, holder := (s.window st).holder }) := by
  obtain ⟨h, filled⟩ | h | h := h
  · simp [doOpenWindow, h, filled, plain, okWith]
  · simp [doOpenWindow, h, plain, okWith]
  · simp [doOpenWindow, h, plain, okWith]

end

/-- Settles O35: the tests of the layer's state and of the range by their own lemmas, each carried through the port. -/
theorem openWindowSetsRange : Obligations.OpenWindowSetsRange := by
  intro st n ws we d dir s hs ht hdir l x answered
  have answer {r : Reply} {u : State} (h : doOpenWindow st n ws we d s = (r, u)) (kept : KeepsDue s u) : answered r u :=
    exec_taken hs ht rfl nofun h kept
  refine ⟨fun h => answer (doOpenWindow_state h) (.refl s),
    fun ⟨h, filling⟩ => answer (doOpenWindow_filling h filling) (.refl s), fun h => ⟨fun outside => answer ?_ (.refl s),
      fun ordered inside => answer ?_ (keepsDue_setWindow ..)⟩⟩
  · have refused : x.length ≤ we.toNat ∨ we.toNat < ws.toNat := by omega
    rw [doOpenWindow_range h, if_pos refused]
  · have passed : ¬(x.length ≤ we.toNat ∨ we.toNat < ws.toNat) := by omega
    rw [doOpenWindow_range h, if_neg passed, hdir, Option.getD_some]

/-! ### The pointer (R155) -/

theorem stepPointer_forward {w : Window} (h : w.direction = .forward) :
    stepPointer w = if w.pointer = w.stop then w.start else w.pointer + 1 := by
  simp only [stepPointer, h]

theorem stepPointer_reverse {w : Window} (h : w.direction = .reverse) :
    stepPointer w = if w.pointer = w.start then w.stop else w.pointer - 1 := by
  simp only [stepPointer, h]

theorem stepPointer_within {w : Window} (low : w.start ≤ w.pointer) (high : w.pointer ≤ w.stop) :
    w.start ≤ stepPointer w ∧ stepPointer w ≤ w.stop := by
  cases h : w.direction with
  | forward =>
    rw [stepPointer_forward h]
    split <;> omega
  | reverse =>
    rw [stepPointer_reverse h]
    split <;> omega

/-- The window after one step of its pointer. -/
def steppedWindow (w : Window) : Window := { w with pointer := stepPointer w }

/-- The pointer after `i` steps. -/
def pointerAfter (w : Window) (i : Nat) : Nat := (Nat.repeat steppedWindow i w).pointer

/-- The steps do not read the holder: a window that has stepped once, whatever was loaded, is one step ahead. -/
theorem repeat_steppedWindow_loaded (w : Window) (x : Word) (i : Nat) :
    Nat.repeat steppedWindow i { w with holder := x, pointer := stepPointer w } =
      { Nat.repeat steppedWindow (i + 1) w with holder := x } := by
  induction i with
  | zero => rfl
  | succ i ih =>
    rw [Nat.repeat, ih]
    rfl

theorem pointerAfter_loaded (w : Window) (x : Word) (i : Nat) :
    pointerAfter { w with holder := x, pointer := stepPointer w } i = pointerAfter w (i + 1) := by
  rw [pointerAfter, repeat_steppedWindow_loaded, pointerAfter]

/-! ### READ DATA (R156) -/

/-- The word that a step loads: the layer's at the pointer after `i` steps. -/
def loadedWord (s : State) (l : LayerId) (w : Window) (i : Nat) : Word := narrowWord (layerWord s l (pointerAfter w i))

theorem loadedWord_loaded (s : State) (l : LayerId) (w : Window) (x : Word) :
    loadedWord s l { w with holder := x, pointer := stepPointer w } = loadedWord s l w ∘ Nat.succ := by
  funext i
  rw [loadedWord, pointerAfter_loaded]
  rfl

/-- The first word is the holder; each later one was loaded by the step before; the last one loaded stays in the holder. -/
theorem readSteps_succ (s : State) (l : LayerId) (k : Nat) (w : Window) :
    readSteps s l (k + 1) w = (w.holder :: (List.range k).map (loadedWord s l w),
      { w with pointer := pointerAfter w (k + 1), holder := loadedWord s l w k }) := by
  induction k generalizing w with
  | zero => rfl
  | succ k ih =>
    rw [readSteps, ih, loadedWord_loaded, pointerAfter_loaded, List.range_succ_eq_map, List.map_cons, List.map_map]
    rfl

theorem doReadData_closed {k : Byte} (h : (s.window st).state = .closed) : doReadData st k s = (⟨.noWindow, []⟩, s) := by
  simp only [doReadData, h, plain]

theorem doReadData_lost {k : Byte} (h : (s.window st).state = .lost) : doReadData st k s = (⟨.windowLost, []⟩, s) := by
  simp only [doReadData, h, plain]

theorem doReadData_opened {k : Byte} (h : (s.window st).state = .opened) (on : (s.window st).layer = some l) :
    doReadData st k s = (⟨.ok, (readSteps s l k.toNat (s.window st)).1.flatMap (fun x => leBytes 4 x.toNat) ++
      leBytes 4 (readSteps s l k.toNat (s.window st)).2.pointer⟩,
      s.setWindow st (readSteps s l k.toNat (s.window st)).2) := by
  simp only [doReadData, h, on, okWith, pointerBytes]

/-- R156: the port lets only 1 to 60 words through. -/
theorem readData_count {k : Byte} (h : requestCheck s (.readData st k) = none) : 1 ≤ k.toNat := by
  have fields : fieldsOk (.readData st k) = true := by
    cases out : fieldsOk (.readData st k) with
    | true => rfl
    | false =>
      simp only [requestCheck, out, if_true] at h
      iterate 2 (split at h; · cases h)
      cases h
  simp only [fieldsOk, inRange, Bool.and_eq_true, decide_eq_true_eq] at fields
  exact fields.1

/-- Settles O36: the pointer by its two directions, the request by the words that its steps return. -/
theorem readDataServesWords : Obligations.ReadDataServesWords := by
  refine ⟨fun w low high => ⟨stepPointer_within low high, fun h ne => ?_, fun h e => ?_, fun h ne => ?_,
    fun h e => ?_⟩, ?_⟩
  · rw [stepPointer_forward h, if_neg ne]
  · rw [stepPointer_forward h, if_pos e]
  · rw [stepPointer_reverse h, if_neg ne]
    omega
  · rw [stepPointer_reverse h, if_pos e]
  · intro st k s hs ht w at_
    refine ⟨fun h => exec_taken hs ht rfl nofun (doReadData_closed h) (.refl s),
      fun h => exec_taken hs ht rfl nofun (doReadData_lost h) (.refl s), fun l h on => ?_⟩
    intro words
    obtain ⟨n, hn⟩ : ∃ n, k.toNat = n + 1 := ⟨k.toNat - 1, by have := readData_count ht.2.2; omega⟩
    refine exec_taken hs ht rfl nofun ((doReadData_opened h on).trans ?_) (keepsDue_setWindow ..)
    simp only [words, hn, readSteps_succ, Nat.add_sub_cancel]
    rfl

/-! ### WRITE DATA (R157) -/

section

variable {ws : List Word}

theorem doWriteData_closed (h : (s.window st).state = .closed) : doWriteData st ws s = (⟨.noWindow, []⟩, s) := by
  simp only [doWriteData, h, plain]

theorem doWriteData_lost (h : (s.window st).state = .lost) : doWriteData st ws s = (⟨.windowLost, []⟩, s) := by
  simp only [doWriteData, h, plain]

/-- The tests of an OPEN window's layer in order, then the words. -/
theorem doWriteData_opened (h : (s.window st).state = .opened) (on : (s.window st).layer = some l) :
    doWriteData st ws s =
      if layerNoEdit s l = true then (⟨.guarded, []⟩, s)
      else if (s.layer l).folding = true then (⟨.retry, []⟩, s)
      else (⟨.ok, leBytes 4 (writeSteps l ws (s.window st) s).1.pointer⟩,
        (writeSteps l ws (s.window st) s).2.setWindow st (writeSteps l ws (s.window st) s).1) := by
  simp only [doWriteData, h, on, plain, okWith, pointerBytes]

end

/-- Settles O37: the refusals in order, then the words; the steps are the recursion of `writeSteps`. -/
theorem writeDataStoresWords : Obligations.WriteDataStoresWords := by
  intro st ws s hs ht w
  have answer {r : Reply} {u : State} (h : doWriteData st ws s = (r, u)) (kept : KeepsDue s u) :
      exec (.writeData st ws) s = .next (holdReply st r u) := exec_taken hs ht rfl nofun h kept
  refine ⟨fun h => answer (doWriteData_closed h) (.refl s), fun h => answer (doWriteData_lost h) (.refl s),
    fun l h on => ?_⟩
  have tests := doWriteData_opened (ws := ws) h on
  refine ⟨fun guarded => answer ?_ (.refl s), fun edits folding => answer ?_ (.refl s), fun edits folding =>
    ⟨answer ?_ (keepsDue_trans (keepsDue_writeSteps l ws w s) (keepsDue_setWindow ..)), ?_, fun x rest v u => rfl⟩⟩
  · rw [tests, if_pos guarded]
  · rw [tests, if_neg (Bool.not_eq_true _ ▸ edits), if_pos folding]
  · rw [tests, if_neg (Bool.not_eq_true _ ▸ edits), if_neg (Bool.not_eq_true _ ▸ folding)]
  · rintro x rfl
    rfl

/-! ### CLOSE WINDOW (R159) -/

theorem setWindow_window (s : State) (st : Station) : s.setWindow st (s.window st) = s := by
  have same : s.windows.set st.val (s.window st) st.isLt = s.windows := Vector.set_getElem_self st.isLt
  rw [State.setWindow, same]

/-- Settles O38: the request by its one equation; a window at its reset values is written as it stands. -/
theorem closeWindowKeepsHolder : Obligations.CloseWindowKeepsHolder := by
  intro st s hs
  have closes (ht : Taken (.closeWindow st) st s) : exec (.closeWindow st) s = .next (holdReply st ⟨.ok, []⟩
      (s.setWindow st { Window.reset with holder := (s.window st).holder })) :=
    exec_taken hs ht rfl nofun rfl (keepsDue_setWindow ..)
  refine ⟨closes, fun ht closed => ?_, fun closed => ⟨
    fun k ht => exec_taken hs ht rfl nofun (doReadData_closed closed) (.refl s),
    fun ws ht => exec_taken hs ht rfl nofun (doWriteData_closed closed) (.refl s)⟩⟩
  rw [closes ht, ← closed, setWindow_window]

end

end Sys2Proof.Proofs.Windows
